-- ==== Sys2Proof/Word.lean ====
section
/-! DEFINITION. The byte, the line level and the closed sets of names the spec uses (00_scope.md R9, R11). -/

namespace Sys2Proof

/-- A byte is 8 bits; bit 0 is the least significant (R9). -/
abbrev Byte := BitVec 8

/-- The level of a one-bit line (R5, R27, R28): `low` is 0, `high` is 1. -/
inductive Level
  | low
  | high
  deriving DecidableEq, Repr, Inhabited

/-- The refresh profiles (R24). -/
inductive Profile
  | full
  | quick
  deriving DecidableEq, Repr, Inhabited

/-- The background colours (R25). -/
inductive Color
  | black
  | white
  deriving DecidableEq, Repr, Inhabited

/-- The sleep depths (R26). -/
inductive SleepDepth
  | retainRam
  | noRetain
  deriving DecidableEq, Repr, Inhabited

/-- The fifteen controller commands (R97), in the order of R36. -/
inductive Command
  | swReset
  | driverOutputControl
  | dataEntryMode
  | setRamXWindow
  | setRamYWindow
  | borderWaveformControl
  | displayUpdateControl1
  | tempSensorControl
  | setRamXCounter
  | setRamYCounter
  | writeRam
  | displayUpdateControl2
  | masterActivation
  | writeLutRegister
  | deepSleepMode
  deriving DecidableEq, Repr, Inhabited

/-- All fifteen, in the order of the constructors. -/
def Command.all : List Command :=
  [.swReset, .driverOutputControl, .dataEntryMode, .setRamXWindow, .setRamYWindow,
   .borderWaveformControl, .displayUpdateControl1, .tempSensorControl, .setRamXCounter,
   .setRamYCounter, .writeRam, .displayUpdateControl2, .masterActivation, .writeLutRegister,
   .deepSleepMode]

/-- The place of a command in `Command.all`: its index in the shadow table (R37). -/
def Command.index : Command → Fin 15
  | .swReset => 0
  | .driverOutputControl => 1
  | .dataEntryMode => 2
  | .setRamXWindow => 3
  | .setRamYWindow => 4
  | .borderWaveformControl => 5
  | .displayUpdateControl1 => 6
  | .tempSensorControl => 7
  | .setRamXCounter => 8
  | .setRamYCounter => 9
  | .writeRam => 10
  | .displayUpdateControl2 => 11
  | .masterActivation => 12
  | .writeLutRegister => 13
  | .deepSleepMode => 14

/-- `ceil(a / b)` of R9. -/
def ceilDiv (a b : Nat) : Nat := (a + b - 1) / b

end Sys2Proof
end

