-- ==== Sys2Proof/Machine/Variant.lean ====
section
/-! DEFINITION. The parameters the source fixes for this variant (00_scope.md R7) and the arithmetic on them (20_memory.md R62, R63). -/

namespace Sys2Proof

/-- `WIDTH` (R7). -/
def panelWidth : Nat := 122

/-- `HEIGHT` (R7). -/
def panelHeight : Nat := 250

/-- `FB_LEN` = ceil(WIDTH * HEIGHT / 8) (R7, R63). -/
def fbLen : Nat := ceilDiv (panelWidth * panelHeight) 8

/-- `IDLE_LEVEL`: the busy line is high when the controller is idle (R7, R126, C4). -/
def idleLevel : Level := .high

/-- `RESET_LOW_MIN`, in time units (R7). -/
def resetLowMin : Nat := 10000

/-- `RESET_SETTLE_MIN`, in time units (R7). -/
def resetSettleMin : Nat := 10000

/-- The gate count that DRIVER_OUTPUT_CONTROL carries: `HEIGHT - 1` (R36, R142). -/
def gateCount : Nat := panelHeight - 1

/-- The last X of the RAM window: `WIDTH - 1` (R64, R145). -/
def windowXEnd : Nat := panelWidth - 1

/-- The last Y of the RAM window: `HEIGHT - 1` (R64, R146). -/
def windowYEnd : Nat := panelHeight - 1

/-- The index of pixel (x, y) in the host's buffer: rows are packed with no padding (R62). -/
def pixelIndex (x y : Nat) : Nat := y * panelWidth + x

/-- The byte of the host's buffer that holds pixel (x, y) (R62). -/
def pixelByte (x y : Nat) : Nat := pixelIndex x y / 8

end Sys2Proof
end

