-- ==== Sys2Proof/Config.lean ====
section
/-! DEFINITION. The configuration record CFG (00_scope.md R8) and the free values: what the spec leaves open. -/

namespace Sys2Proof

/-- The opcode byte of each command: `CFG.OPC` (R8, R97). -/
structure OpcMap where
  swReset : Byte
  driverOutputControl : Byte
  dataEntryMode : Byte
  setRamXWindow : Byte
  setRamYWindow : Byte
  borderWaveformControl : Byte
  displayUpdateControl1 : Byte
  tempSensorControl : Byte
  setRamXCounter : Byte
  setRamYCounter : Byte
  writeRam : Byte
  displayUpdateControl2 : Byte
  masterActivation : Byte
  writeLutRegister : Byte
  deepSleepMode : Byte
  deriving DecidableEq, Repr

/-- `OPC(c)`. -/
def OpcMap.code (o : OpcMap) : Command → Byte
  | .swReset => o.swReset
  | .driverOutputControl => o.driverOutputControl
  | .dataEntryMode => o.dataEntryMode
  | .setRamXWindow => o.setRamXWindow
  | .setRamYWindow => o.setRamYWindow
  | .borderWaveformControl => o.borderWaveformControl
  | .displayUpdateControl1 => o.displayUpdateControl1
  | .tempSensorControl => o.tempSensorControl
  | .setRamXCounter => o.setRamXCounter
  | .setRamYCounter => o.setRamYCounter
  | .writeRam => o.writeRam
  | .displayUpdateControl2 => o.displayUpdateControl2
  | .masterActivation => o.masterActivation
  | .writeLutRegister => o.writeLutRegister
  | .deepSleepMode => o.deepSleepMode

/-- The constraint R8 and R97 put on `CFG.OPC`: fifteen different bytes. -/
abbrev OpcMap.Injective (o : OpcMap) : Prop := (Command.all.map o.code).Nodup

/-- The scan-direction flags of DRIVER_OUTPUT_CONTROL: three flags (R142). PRESUMED that there are
three, from the layout of CFG_GK (G2; log 14); no rule of the engine reads them. -/
structure ScanFlags where
  gateOrder : Bool
  interlace : Bool
  direction : Bool
  deriving DecidableEq, Repr

/-- The VBD source of the border waveform (R147; the values are CFG_GK's, G7). -/
inductive VbdSource
  | gsTransition
  | fixedLevel
  | vcom
  | highImpedance
  deriving DecidableEq, Repr

/-- The fixed level of the border waveform (R147; the values are CFG_GK's, G7). -/
inductive FixedLevel
  | vss
  | vsh1
  | vsl
  | vsh2
  deriving DecidableEq, Repr

/-- The GS transition of the border waveform (R147; the values are CFG_GK's, G7). -/
inductive GsTransition
  | lut0
  | lut1
  | lut2
  | lut3
  deriving DecidableEq, Repr

/-- `BORDER_CFG`: three independent sub-fields (R8, R147). -/
structure BorderCfg where
  source : VbdSource
  level : FixedLevel
  transition : GsTransition
  deriving DecidableEq, Repr

/-- The configuration record `CFG`, one field per row of R8's table. The three images the source says
are one byte each are bytes. -/
structure Cfg where
  resetLow : Nat
  resetSettle : Nat
  pollDelay : Nat
  opc : OpcMap
  payDoc : List Byte
  scanFlags : ScanFlags
  payDem : List Byte
  payXwin : List Byte
  payYwin : List Byte
  payXctr : List Byte
  payYctr : List Byte
  borderCfg : BorderCfg
  payBorder : Byte
  payDuc1 : List Byte
  payTemp : List Byte
  payDuc2Full : Byte
  payDuc2Sleep : Byte
  paySleepRetain : List Byte
  paySleepNoRetain : List Byte
  sleepDepthCfg : SleepDepth
  profileInit : Profile
  bgInit : Color
  lutLen : Nat
  lutFull : List Byte
  lutQuick : List Byte
  deriving DecidableEq, Repr

/-- The constraints the spec puts on CFG (R8, R93, R97, R153, R211, R257). Nothing asks the two waveform
tables to differ (R214). -/
abbrev Cfg.Valid (c : Cfg) : Prop :=
  resetLowMin ≤ c.resetLow ∧ resetSettleMin ≤ c.resetSettle ∧ c.opc.Injective ∧
  c.payDoc ≠ [] ∧ c.payDem ≠ [] ∧ c.payXwin ≠ [] ∧ c.payYwin ≠ [] ∧ c.payXctr ≠ [] ∧
  c.payYctr ≠ [] ∧ c.payDuc1 ≠ [] ∧ c.payTemp ≠ [] ∧ c.payDuc2Full ≠ c.payDuc2Sleep ∧
  c.paySleepRetain ≠ [] ∧ c.paySleepNoRetain ≠ [] ∧ 0 < c.lutLen ∧
  c.lutFull.length = c.lutLen ∧ c.lutQuick.length = c.lutLen

/-- Free value: one less than `LUT_LEN` in CFG_GK, which leaves it symbolic (R8, R211; log 2). -/
opaque Config.lutLenPred : Nat

/-- Free value: byte `i` of the waveform table of a profile in CFG_GK (R211; log 2). -/
opaque Config.lutByte : Profile → Nat → Byte

/-- Free value: what the busy line reads at the n-th sample of a run, where the state does not hold the
environment's answer (R72; log 3). -/
opaque Config.busyLevel : Nat → Level

/-- Free value: whether the n-th pin or bus action of a run faults, where the state does not hold the
environment's answer (R125; log 3). -/
opaque Config.actionFaults : Nat → Bool

end Sys2Proof
end

