-- ==== Sys2Proof/Syntax.lean ====
section
/-! DEFINITION. The instructions: one constructor per row of spec/opcode_table.json. -/

namespace Sys2Proof

/-- The fifteen controller commands of 41_command_vocabulary.md, then the host requests of
42_panel_state_machine.md. A command of frame format CDF (30_encoding.md R90) carries the bytes of its
data phase; which bytes the engine passes is fixed by its step lists (log 12). UPDATE and
UPDATE_AND_DISPLAY carry the buffer that stands beside the request word (R96). -/
inductive Instr
  | swReset
  | driverOutputControl (payload : List Byte)
  | dataEntryMode (payload : List Byte)
  | setRamXWindow (payload : List Byte)
  | setRamYWindow (payload : List Byte)
  | borderWaveformControl (payload : List Byte)
  | displayUpdateControl1 (payload : List Byte)
  | tempSensorControl (payload : List Byte)
  | setRamXCounter (payload : List Byte)
  | setRamYCounter (payload : List Byte)
  | writeRam (payload : List Byte)
  | displayUpdateControl2 (payload : List Byte)
  | masterActivation
  | writeLutRegister (payload : List Byte)
  | deepSleepMode (payload : List Byte)
  | construct
  | wake
  | sleep
  | update (buf : List Byte)
  | display
  | updateAndDisplay (buf : List Byte)
  | setRefreshProfile (profile : Profile)
  | setBackgroundColor (color : Color)
  | width
  | height
  | updatePartial
  | clearFrame
  | reserved (code : BitVec 2)
  deriving DecidableEq, Repr

end Sys2Proof
end

