-- ==== Sys2Proof/WellFormed.lean ====
section
/-! DEFINITION. Which instruction terms the encodings admit (30_encoding.md R90, R93). -/

namespace Sys2Proof

/-- A command of format CDF has a non-empty payload, of one byte for the two commands whose image is one
byte and of `FB_LEN` bytes for WRITE_RAM (R93). A request is well formed with every operand: a buffer of
any length may stand beside the request word (R96). -/
def Instr.wf : Instr → Bool
  | .borderWaveformControl bs => bs.length == 1
  | .displayUpdateControl2 bs => bs.length == 1
  | .writeRam bs => bs.length == fbLen
  | .driverOutputControl bs => bs.length != 0
  | .dataEntryMode bs => bs.length != 0
  | .setRamXWindow bs => bs.length != 0
  | .setRamYWindow bs => bs.length != 0
  | .displayUpdateControl1 bs => bs.length != 0
  | .tempSensorControl bs => bs.length != 0
  | .setRamXCounter bs => bs.length != 0
  | .setRamYCounter bs => bs.length != 0
  | .writeLutRegister bs => bs.length != 0
  | .deepSleepMode bs => bs.length != 0
  | .swReset => true
  | .masterActivation => true
  | .construct => true
  | .wake => true
  | .sleep => true
  | .update _ => true
  | .display => true
  | .updateAndDisplay _ => true
  | .setRefreshProfile _ => true
  | .setBackgroundColor _ => true
  | .width => true
  | .height => true
  | .updatePartial => true
  | .clearFrame => true
  | .reserved _ => true

end Sys2Proof
end

