-- ==== Sys2Proof/Decode.lean ====
section
/-! DEFINITION. The decoders and the encoder (30_encoding.md), and CFG_GK (00_scope.md R8, R12), whose bytes concrete words are written in. -/

namespace Sys2Proof

/-! ### One-bit encodings (R21, R24, R25, R26, R9) -/

/-- 0 low, 1 high (R27, R28). -/
def Level.toBit : Level → BitVec 1
  | .low => 0
  | .high => 1

/-- 0 `Full`, 1 `Quick` (R24). -/
def Profile.toBit : Profile → BitVec 1
  | .full => 0
  | .quick => 1

/-- The profile that operand bit `a` names (R96). -/
def Profile.ofBit (a : BitVec 1) : Profile := if a = 0 then .full else .quick

/-- 0 `Black`, 1 `White` (R25). -/
def Color.toBit : Color → BitVec 1
  | .black => 0
  | .white => 1

/-- The colour that operand bit `a` names (R96). -/
def Color.ofBit (a : BitVec 1) : Color := if a = 0 then .black else .white

/-- 0 `RetainRam`, 1 `NoRetain` (R26). -/
def SleepDepth.toBit : SleepDepth → BitVec 1
  | .retainRam => 0
  | .noRetain => 1

/-! ### Words -/

/-- One byte on the bus with the level of the select line beside it (R93): low for the opcode byte, high
for the bytes of the data phase (R90, R92). -/
structure WireByte where
  dc : Level
  byte : Byte
  deriving DecidableEq, Repr

/-- What is decoded: a host request (word and the buffer beside it, R96) or a frame on the bus: the byte
sent with the select line low and the bytes of the data phase, none for format CF (R90). -/
inductive Words
  | request (word : Byte) (buf : List Byte)
  | frame (opcode : Byte) (data : List Byte)
  deriving DecidableEq, Repr

/-- Why words on the bus are no instruction. -/
inductive DecodeError
  /-- bytes sent with the select line high that follow no opcode byte (R91) -/
  | dataWithoutCommand (bytes : List Byte)
  /-- the opcode byte is the image of no command (R98) -/
  | invalid (opcode : Byte)
  /-- a command of format CDF without its data phase (R90) -/
  | payloadMissing (c : Command)
  /-- a command of format CF with a data phase (R90) -/
  | payloadUnexpected (c : Command)
  deriving DecidableEq, Repr

/-! ### Commands and frames (R90 to R98) -/

/-- Whether a command has format CF: the opcode byte alone (R93, D11). -/
def Command.bare : Command → Bool
  | .swReset => true
  | .masterActivation => true
  | .driverOutputControl => false
  | .dataEntryMode => false
  | .setRamXWindow => false
  | .setRamYWindow => false
  | .borderWaveformControl => false
  | .displayUpdateControl1 => false
  | .tempSensorControl => false
  | .setRamXCounter => false
  | .setRamYCounter => false
  | .writeRam => false
  | .displayUpdateControl2 => false
  | .writeLutRegister => false
  | .deepSleepMode => false

/-- The instruction that sends a command with a payload; the two bare commands have none. -/
def Command.instr (c : Command) (payload : List Byte) : Instr :=
  match c with
  | .swReset => .swReset
  | .driverOutputControl => .driverOutputControl payload
  | .dataEntryMode => .dataEntryMode payload
  | .setRamXWindow => .setRamXWindow payload
  | .setRamYWindow => .setRamYWindow payload
  | .borderWaveformControl => .borderWaveformControl payload
  | .displayUpdateControl1 => .displayUpdateControl1 payload
  | .tempSensorControl => .tempSensorControl payload
  | .setRamXCounter => .setRamXCounter payload
  | .setRamYCounter => .setRamYCounter payload
  | .writeRam => .writeRam payload
  | .displayUpdateControl2 => .displayUpdateControl2 payload
  | .masterActivation => .masterActivation
  | .writeLutRegister => .writeLutRegister payload
  | .deepSleepMode => .deepSleepMode payload

/-- The command an instruction sends and its payload; none for a host request. -/
def Instr.command? : Instr → Option (Command × List Byte)
  | .swReset => some (.swReset, [])
  | .driverOutputControl bs => some (.driverOutputControl, bs)
  | .dataEntryMode bs => some (.dataEntryMode, bs)
  | .setRamXWindow bs => some (.setRamXWindow, bs)
  | .setRamYWindow bs => some (.setRamYWindow, bs)
  | .borderWaveformControl bs => some (.borderWaveformControl, bs)
  | .displayUpdateControl1 bs => some (.displayUpdateControl1, bs)
  | .tempSensorControl bs => some (.tempSensorControl, bs)
  | .setRamXCounter bs => some (.setRamXCounter, bs)
  | .setRamYCounter bs => some (.setRamYCounter, bs)
  | .writeRam bs => some (.writeRam, bs)
  | .displayUpdateControl2 bs => some (.displayUpdateControl2, bs)
  | .masterActivation => some (.masterActivation, [])
  | .writeLutRegister bs => some (.writeLutRegister, bs)
  | .deepSleepMode bs => some (.deepSleepMode, bs)
  | .construct => none
  | .wake => none
  | .sleep => none
  | .update _ => none
  | .display => none
  | .updateAndDisplay _ => none
  | .setRefreshProfile _ => none
  | .setBackgroundColor _ => none
  | .width => none
  | .height => none
  | .updatePartial => none
  | .clearFrame => none
  | .reserved _ => none

/-- The command whose opcode byte is `b`, if there is one; a byte that has none is invalid (R98). -/
def decodeCommandByte (o : OpcMap) (b : Byte) : Option Command :=
  Command.all.find? (fun c => o.code c == b)

/-- Decoding of one frame. -/
def decodeFrame (o : OpcMap) (opcode : Byte) (data : List Byte) : Except DecodeError Instr :=
  match decodeCommandByte o opcode with
  | none => .error (.invalid opcode)
  | some c =>
    if c.bare then
      if data.isEmpty then .ok (c.instr []) else .error (.payloadUnexpected c)
    else
      if data.isEmpty then .error (.payloadMissing c) else .ok (c.instr data)

/-- Cutting a raw byte stream into frames: a frame starts at every byte sent with the select line low
(R93). The first component is what comes before the first such byte. -/
def cutFrames : List WireByte → List Byte × List (Byte × List Byte)
  | [] => ([], [])
  | w :: ws =>
    if w.dc = .low then ([], (w.byte, (cutFrames ws).1) :: (cutFrames ws).2)
    else (w.byte :: (cutFrames ws).1, (cutFrames ws).2)

/-- Decoding of a whole stream, frame by frame. -/
def decodeStream (o : OpcMap) (ws : List WireByte) : List (Except DecodeError Instr) :=
  let cut := cutFrames ws
  (if cut.1.isEmpty then [] else [.error (.dataWithoutCommand cut.1)]) ++
    cut.2.map (fun f => decodeFrame o f.1 f.2)

/-! ### Requests (R96, R99, R102) -/

/-- `REQ[3:0]`. -/
def reqCode (word : Byte) : BitVec 4 := word.extractLsb' 0 4

/-- `REQ[4]`. -/
def reqArg (word : Byte) : BitVec 1 := word.extractLsb' 4 1

/-- The request a request word and its buffer stand for; total on all 256 words. Bits 7 to 5, and bit 4
and the buffer where unused, are ignored (log 17). -/
def decodeRequest (word : Byte) (buf : List Byte) : Instr :=
  match (reqCode word).toNat with
  | 0 => .construct
  | 1 => .wake
  | 2 => .sleep
  | 3 => .update buf
  | 4 => .display
  | 5 => .updateAndDisplay buf
  | 6 => .setRefreshProfile (Profile.ofBit (reqArg word))
  | 7 => .setBackgroundColor (Color.ofBit (reqArg word))
  | 8 => .width
  | 9 => .height
  | 10 => .updatePartial
  | 11 => .clearFrame
  | _ => .reserved (word.extractLsb' 0 2)

/-- The request word with every ignored bit 0. -/
def requestWord (code : BitVec 4) (arg : BitVec 1) : Byte := 0#3 ++ arg ++ code

/-! ### The decoder and the encoder -/

/-- The decoder: total, and a frame it refuses is refused by name. -/
def decode (o : OpcMap) : Words → Except DecodeError Instr
  | .request word buf => .ok (decodeRequest word buf)
  | .frame opcode data => decodeFrame o opcode data

/-- The words of an instruction: the frame of a command (R90), the request word of a request (R99). -/
def encode (o : OpcMap) : Instr → Words
  | .swReset => .frame (o.code .swReset) []
  | .driverOutputControl bs => .frame (o.code .driverOutputControl) bs
  | .dataEntryMode bs => .frame (o.code .dataEntryMode) bs
  | .setRamXWindow bs => .frame (o.code .setRamXWindow) bs
  | .setRamYWindow bs => .frame (o.code .setRamYWindow) bs
  | .borderWaveformControl bs => .frame (o.code .borderWaveformControl) bs
  | .displayUpdateControl1 bs => .frame (o.code .displayUpdateControl1) bs
  | .tempSensorControl bs => .frame (o.code .tempSensorControl) bs
  | .setRamXCounter bs => .frame (o.code .setRamXCounter) bs
  | .setRamYCounter bs => .frame (o.code .setRamYCounter) bs
  | .writeRam bs => .frame (o.code .writeRam) bs
  | .displayUpdateControl2 bs => .frame (o.code .displayUpdateControl2) bs
  | .masterActivation => .frame (o.code .masterActivation) []
  | .writeLutRegister bs => .frame (o.code .writeLutRegister) bs
  | .deepSleepMode bs => .frame (o.code .deepSleepMode) bs
  | .construct => .request (requestWord 0 0) []
  | .wake => .request (requestWord 1 0) []
  | .sleep => .request (requestWord 2 0) []
  | .update buf => .request (requestWord 3 0) buf
  | .display => .request (requestWord 4 0) []
  | .updateAndDisplay buf => .request (requestWord 5 0) buf
  | .setRefreshProfile p => .request (requestWord 6 p.toBit) []
  | .setBackgroundColor c => .request (requestWord 7 c.toBit) []
  | .width => .request (requestWord 8 0) []
  | .height => .request (requestWord 9 0) []
  | .updatePartial => .request (requestWord 10 0) []
  | .clearFrame => .request (requestWord 11 0) []
  | .reserved code => .request (requestWord (0b11#2 ++ code) 0) []

/-- The bytes of a frame on the bus with the select line beside each (R92, R93). -/
def Words.wire : Words → List WireByte
  | .request _ _ => []
  | .frame opcode data => ⟨.low, opcode⟩ :: data.map (fun b => ⟨.high, b⟩)

/-! ### CFG_GK -/

/-- The opcode bytes of CFG_GK (R97, G1): general knowledge, not the source's (PRESUMED, log 1). -/
def opcGk : OpcMap where
  swReset := 0x12
  driverOutputControl := 0x01
  dataEntryMode := 0x11
  setRamXWindow := 0x44
  setRamYWindow := 0x45
  borderWaveformControl := 0x3C
  displayUpdateControl1 := 0x21
  tempSensorControl := 0x18
  setRamXCounter := 0x4E
  setRamYCounter := 0x4F
  writeRam := 0x24
  displayUpdateControl2 := 0x22
  masterActivation := 0x20
  writeLutRegister := 0x32
  deepSleepMode := 0x10

/-- A waveform table of CFG_GK, which R8 leaves symbolic: `LUT_LEN` free bytes (R211, D12; log 2). -/
def lutGk (p : Profile) : List Byte := (List.range (Config.lutLenPred + 1)).map (Config.lutByte p)

/-- CFG_GK, the one named instantiation (R8, R12): general knowledge, not the source's (PRESUMED, log 1). -/
def Cfg.gk : Cfg where
  resetLow := 10000
  resetSettle := 10000
  pollDelay := 1
  opc := opcGk
  payDoc := [0xF9, 0x00, 0x00]
  scanFlags := ⟨false, false, false⟩
  payDem := [0x02]
  payXwin := [0x00, 0x0F]
  payYwin := [0x00, 0x00, 0xF9, 0x00]
  payXctr := [0x00]
  payYctr := [0x00, 0x00]
  borderCfg := ⟨.gsTransition, .vss, .lut3⟩
  payBorder := 0x03
  payDuc1 := [0x00, 0x80]
  payTemp := [0x80]
  payDuc2Full := 0xC7
  payDuc2Sleep := 0xC3
  paySleepRetain := [0x01]
  paySleepNoRetain := [0x03]
  sleepDepthCfg := .retainRam
  profileInit := .full
  bgInit := .white
  lutLen := Config.lutLenPred + 1
  lutFull := lutGk .full
  lutQuick := lutGk .quick

/-- `PLEN(c)` with CFG_GK (R93). WRITE_LUT_REGISTER, symbolic there, is given 1, the shortest its format
admits; only `decodeTableWord` uses this (log 15). -/
def payloadLenGk : Command → Nat
  | .swReset => 0
  | .driverOutputControl => 3
  | .dataEntryMode => 1
  | .setRamXWindow => 2
  | .setRamYWindow => 4
  | .borderWaveformControl => 1
  | .displayUpdateControl1 => 2
  | .tempSensorControl => 1
  | .setRamXCounter => 1
  | .setRamYCounter => 2
  | .writeRam => fbLen
  | .displayUpdateControl2 => 1
  | .masterActivation => 0
  | .writeLutRegister => 1
  | .deepSleepMode => 1

/-! ### The host's table words -/

/-- What a byte of spec/opcode_table.json stands for, the operand beside it all zeros. The table lists
two byte spaces that overlap: request words and opcode bytes. A byte whose ignored request bits are all 0
is read as a request word, any other byte as the opcode byte of CFG_GK that it is, and as a request word
if it is none (log 15). -/
def tableWords (b : Byte) : Words :=
  if b.toNat < 16 then .request b (List.replicate fbLen 0)
  else
    match decodeCommandByte opcGk b with
    | some c => .frame b (List.replicate (payloadLenGk c) 0)
    | none => .request b (List.replicate fbLen 0)

/-- The instruction the decoder reads from a word of the opcode table (8 bits). -/
def decodeTableWord (nbits w : Nat) : Option Instr :=
  if nbits ≤ 8 ∧ w < 256 then
    match decode opcGk (tableWords (BitVec.ofNat 8 w)) with
    | .ok i => some i
    | .error _ => none
  else none

end Sys2Proof
end

