-- ==== Sys2Proof/Machine/State.lean ====
section
/-! DEFINITION. The state of the engine (10_state.md R20 to R43), the observable (00_scope.md R5), the inputs, and the reset state. -/

namespace Sys2Proof.Machine

/-- The values of the state register `ST` (R21, R22). -/
inductive St
  | uninitialized
  | initializing
  | idle
  | writing
  | activating
  | sleeping
  | faulted
  deriving DecidableEq, Repr

/-- Why a request is rejected (60_exceptions.md R223). -/
inductive Why
  | lengthMismatch
  | unsupported
  | illegalState
  | reservedCode
  deriving DecidableEq, Repr

/-- The result of a request (30_encoding.md R101, 60_exceptions.md R220). -/
inductive Result
  | ok
  | okValue (value : BitVec 16)
  | preconditionViolation (why : Why)
  | transportFault
  deriving DecidableEq, Repr

/-- An action that can fault (40_transport_framer.md R125): driving the reset line, a command phase, a
data phase, reading the busy line. The command phase names its byte, so that the shadow is a function of
the trace (R37; log 10). -/
inductive Action
  | rst (level : Level)
  | cmd (byte : Byte)
  | data
  | busy
  deriving DecidableEq, Repr

/-- The events of a trace (R5). -/
inductive Event
  | rst (level : Level)
  | delay (units : Nat)
  | busy (level : Level)
  | cmd (byte : Byte)
  | data (bytes : List Byte)
  | fault (action : Action)
  deriving DecidableEq, Repr

/-- The requests that run a step list, with the operand lent for as long as they run (R30, R70, R96). -/
inductive Op
  | construct
  | wake
  | sleep
  | update (buf : List Byte)
  | display
  | updateAndDisplay (buf : List Byte)
  | setRefreshProfile (profile : Profile)
  deriving DecidableEq, Repr

/-- The numbered steps of 42_panel_state_machine.md (R30). -/
inductive StepLabel
  | i0 | i1 | i2 | i3 | i4 | i5 | i6 | i7 | i8 | i9 | i10 | i11 | i12 | i13
  | w0 | w1 | w2 | w3 | w4
  | a0 | a1 | a2
  | s0 | s1 | s2 | s3
  | p0 | p1 | p2
  deriving DecidableEq, Repr

/-- `SEQ_POS` (R30): `Ready`, or the running request and the index of its step now to be performed. -/
inductive SeqPos
  | ready
  | running (op : Op) (k : Nat)
  deriving DecidableEq, Repr

/-- An entry of the shadow (R37): what was last sent with a command, or `Unknown`. It is what the controller
was told, not what the controller holds (R41). -/
inductive ShadowEntry
  | unknown
  | sent (payload : List Byte)
  deriving DecidableEq, Repr

/-- The controller shadow `CTL` (R37), one entry per command at `Command.index`. The shadow is not the
controller (R41). -/
abbrev Ctl := Vector ShadowEntry 15

/-- A request as the host presents it: the word `REQ` and the buffer beside it (R96). -/
structure HostReq where
  word : Byte
  buf : List Byte
  deriving DecidableEq, Repr

/-- The environment (R6): its answers already known, oldest first, and how many it has given. Beyond the
known answers the free values of Config answer (log 3). -/
structure Env where
  busy : List Level
  faults : List Bool
  samples : Nat
  actions : Nat
  deriving DecidableEq, Repr

/-- The state. `st` to `seqPos` are the engine's registers (R20). `ctl` is bookkeeping (R37). `trace` and
`results` are the observable (R5): the engine writes and never reads them. `cfg` is the configuration
(R8, R33; log 1). `env` and `script` are the inputs (R6; log 3, log 4).
No field holds the controller's RAM, its LUT or the panel, so no claim can speak of them: what can be claimed
is the trace (R40, R41). -/
structure State where
  cfg : Cfg
  st : St
  profile : Profile
  bg : Color
  sleepDepth : SleepDepth
  rst : Level
  dc : Level
  seqPos : SeqPos
  ctl : Ctl
  trace : List Event
  results : List Result
  env : Env
  script : List HostReq
  deriving DecidableEq, Repr

/-- Why the machine stops with a fault. -/
inductive Fault
  /-- Raised by `step` where SEQ_POS holds an index its request's step list does not have (R30), a state
  no run reaches (log 13). Safe: the machine stops. -/
  | badSeqPos
  deriving DecidableEq, Repr

/-- Why an instruction has no meaning. -/
inductive Refusal
  /-- Raised by no meaning: it would stand in `exec`'s arm of an instruction not modelled yet. Safe. -/
  | notModelled (mnemonic : String)
  /-- Raised by a host request while another runs: the host has no move then (R170) and such a run is
  outside every claim (U14), so `step` never presents one (log 13). Safe: the machine stops. -/
  | requestWhileRunning
  /-- Raised by a host request that meets a transient value of ST with SEQ_POS = Ready, which must not be
  given a meaning (R23) and which no run reaches (log 13). Safe: the machine stops. -/
  | requestInTransientState
  deriving DecidableEq, Repr

/-- Every entry `Unknown` (R38). -/
def Ctl.allUnknown : Ctl := Vector.replicate 15 .unknown

/-- No answer known and none given yet (log 3). -/
def Env.free : Env := { busy := [], faults := [], samples := 0, actions := 0 }

/-- The engine right after power-on, for a configuration (R42, R250). -/
def State.resetWith (c : Cfg) : State where
  cfg := c
  st := .uninitialized
  profile := c.profileInit
  bg := c.bgInit
  sleepDepth := c.sleepDepthCfg
  rst := .high
  dc := .high
  seqPos := .ready
  ctl := Ctl.allUnknown
  trace := []
  results := []
  env := Env.free
  script := []

/-- The reset state, under CFG_GK (R12; PRESUMED, log 1). -/
def State.reset : State := State.resetWith Cfg.gk

end Sys2Proof.Machine
end

