-- ==== Sys2Proof/Machine/Flags.lean ====
section
/-! DEFINITION. Flag sets, codes and checks: the flags of DISPLAY_UPDATE_CONTROL_2 (R153), the numeric codes of states and results (R21, R101, R220), the checks a request meets (R171, R172). The engine has no condition codes (R31). -/

namespace Sys2Proof

/-- The five flags of DISPLAY_UPDATE_CONTROL_2 that the source names (R153). -/
structure ActivationFlags where
  enableClock : Bool
  enableAnalog : Bool
  display : Bool
  disableAnalog : Bool
  disableClock : Bool
  deriving DecidableEq, Repr

/-- FULL: all five flags (R153), the logical value of `PAY_DUC2_FULL`. -/
def ActivationFlags.full : ActivationFlags := ⟨true, true, true, true, true⟩

/-- TEARDOWN: the four without display (R153), the logical value of `PAY_DUC2_SLEEP`. -/
def ActivationFlags.teardown : ActivationFlags := { ActivationFlags.full with display := false }

/-- The byte of a flag set in the layout CFG_GK assumes: bit 7, bit 6, bit 2, bit 1, bit 0 (R153; general
knowledge, PRESUMED, log 1). -/
def ActivationFlags.image (f : ActivationFlags) : Byte :=
  (if f.enableClock then 0x80 else 0) ||| (if f.enableAnalog then 0x40 else 0) |||
  (if f.display then 0x04 else 0) ||| (if f.disableAnalog then 0x02 else 0) |||
  (if f.disableClock then 0x01 else 0)

end Sys2Proof

namespace Sys2Proof.Machine

/-! ### Codes -/

/-- The 3-bit encoding of `ST` (R21, D17); 7 is never held. -/
def St.code : St → BitVec 3
  | .uninitialized => 0
  | .initializing => 1
  | .idle => 2
  | .writing => 3
  | .activating => 4
  | .sleeping => 5
  | .faulted => 6

/-- The transient values, held only while a request runs (R21, R23). -/
def St.transient : St → Bool
  | .initializing => true
  | .writing => true
  | .activating => true
  | .uninitialized => false
  | .idle => false
  | .sleeping => false
  | .faulted => false

/-- The code of a result (R101, R220). -/
def Result.code : Result → Nat
  | .ok => 0
  | .okValue _ => 0
  | .preconditionViolation _ => 1
  | .transportFault => 2

/-- The value a result carries, for WIDTH and HEIGHT (R101). -/
def Result.value? : Result → Option (BitVec 16)
  | .okValue v => some v
  | .ok => none
  | .preconditionViolation _ => none
  | .transportFault => none

/-- The numeric `why` code (R220, D29). -/
def Why.code : Why → Nat
  | .lengthMismatch => 1
  | .unsupported => 2
  | .illegalState => 3
  | .reservedCode => 4

/-! ### Checks -/

/-- A cell of the legality table (R172). -/
inductive Legality
  | yes
  | no
  | never
  deriving DecidableEq, Repr

/-- `yes` in `Idle` only. -/
def idleOnly (st : St) : Legality := if st = .idle then .yes else .no

/-- The legality table (R172, D14). A controller command is no request: the host cannot issue one. -/
def legality (i : Instr) (st : St) : Legality :=
  match i with
  | .construct => .yes
  | .wake => .yes
  | .update _ => .yes
  | .updateAndDisplay _ => .yes
  | .display => idleOnly st
  | .sleep => idleOnly st
  | .setRefreshProfile _ => idleOnly st
  | .setBackgroundColor _ => .yes
  | .width => .yes
  | .height => .yes
  | .updatePartial => .never
  | .clearFrame => .never
  | .reserved _ => .never
  | .swReset => .never
  | .driverOutputControl _ => .never
  | .dataEntryMode _ => .never
  | .setRamXWindow _ => .never
  | .setRamYWindow _ => .never
  | .borderWaveformControl _ => .never
  | .displayUpdateControl1 _ => .never
  | .tempSensorControl _ => .never
  | .setRamXCounter _ => .never
  | .setRamYCounter _ => .never
  | .writeRam _ => .never
  | .displayUpdateControl2 _ => .never
  | .masterActivation => .never
  | .writeLutRegister _ => .never
  | .deepSleepMode _ => .never

/-- A reserved request code (R193). -/
def isReserved : Instr → Bool
  | .reserved _ => true
  | _ => false

/-- A request that exists only to be refused (R190, R191). -/
def isUnsupported : Instr → Bool
  | .updatePartial => true
  | .clearFrame => true
  | _ => false

/-- A request lent a buffer whose length is not `FB_LEN`, as an exact equality of naturals (R63, R67). -/
def badLength : Instr → Bool
  | .update buf => buf.length != fbLen
  | .updateAndDisplay buf => buf.length != fbLen
  | _ => false

/-- The checks of R171, in its order: the first that fails says why the request is rejected. -/
def precheck (i : Instr) (st : St) : Option Why :=
  if isReserved i then some .reservedCode
  else if isUnsupported i then some .unsupported
  else if legality i st = .no then some .illegalState
  else if badLength i then some .lengthMismatch
  else none

end Sys2Proof.Machine
end

