-- ==== Sys2Proof/Machine/Operands.lean ====
section
/-! DEFINITION. Operand forms: the step list of each request, the bytes each step passes, and the payload layouts of CFG_GK (41_command_vocabulary.md, 42_panel_state_machine.md). -/

namespace Sys2Proof

/-! ### Which bytes a step passes (R100) -/

/-- `CFG.PAY_SLEEP(d)` (R8, R156). -/
def Cfg.paySleep (c : Cfg) : SleepDepth → List Byte
  | .retainRam => c.paySleepRetain
  | .noRetain => c.paySleepNoRetain

/-- `LUT(p)`, the waveform table store: a lookup (R210). -/
def Cfg.lut (c : Cfg) : Profile → List Byte
  | .full => c.lutFull
  | .quick => c.lutQuick

/-! ### The payload layouts CFG_GK assumes (R142 to R151, R156; general knowledge, PRESUMED, log 1)

The engine never computes a payload (R100): it sends the images that CFG holds. These functions say which
logical value each image of CFG_GK stands for. -/

/-- Bit 0 of a byte set or clear. -/
def bitByte (b : Bool) : Byte := if b then 1 else 0

/-- Bits 7 to 0 of a coordinate. -/
def lowByte (n : Nat) : Byte := BitVec.ofNat 8 n

/-- Bit 8 of a coordinate, in bit 0 of a byte. -/
def bit8 (n : Nat) : Byte := BitVec.ofNat 8 (n / 256 % 2)

/-- DRIVER_OUTPUT_CONTROL: gate count low byte, bit 8, the three scan flags in bits 2 to 0 (R142;
PRESUMED, log 14). -/
def docImage (gates : Nat) (f : ScanFlags) : List Byte :=
  [lowByte gates, bit8 gates,
   bitByte f.gateOrder <<< 2 ||| bitByte f.interlace <<< 1 ||| bitByte f.direction]

/-- DATA_ENTRY_MODE: bit 0 X increment, bit 1 Y increment, bit 2 Y moves first (R143). -/
def demImage (xIncrement yIncrement yFirst : Bool) : List Byte :=
  [bitByte yFirst <<< 2 ||| bitByte yIncrement <<< 1 ||| bitByte xIncrement]

/-- SET_RAM_X_WINDOW: start and end in units of 8 pixels (R145). -/
def xwinImage (first last : Nat) : List Byte := [lowByte (first / 8), lowByte (last / 8)]

/-- SET_RAM_Y_WINDOW: start and end in lines, low byte first (R146). -/
def ywinImage (first last : Nat) : List Byte := [lowByte first, bit8 first, lowByte last, bit8 last]

/-- SET_RAM_X_COUNTER: in units of 8 pixels (R150). -/
def xctrImage (x : Nat) : List Byte := [lowByte (x / 8)]

/-- SET_RAM_Y_COUNTER: low byte first (R151). -/
def yctrImage (y : Nat) : List Byte := [lowByte y, bit8 y]

/-- The VBD source in two bits (R147). -/
def VbdSource.bits : VbdSource → BitVec 2
  | .gsTransition => 0
  | .fixedLevel => 1
  | .vcom => 2
  | .highImpedance => 3

/-- The fixed level in two bits (R147). -/
def FixedLevel.bits : FixedLevel → BitVec 2
  | .vss => 0
  | .vsh1 => 1
  | .vsl => 2
  | .vsh2 => 3

/-- The GS transition in two bits (R147). -/
def GsTransition.bits : GsTransition → BitVec 2
  | .lut0 => 0
  | .lut1 => 1
  | .lut2 => 2
  | .lut3 => 3

/-- BORDER_WAVEFORM_CONTROL: source in bits 7 to 6, level in bits 5 to 4, transition in bits 1 to 0
(R147). -/
def borderImage (b : BorderCfg) : Byte := b.source.bits ++ b.level.bits ++ 0#2 ++ b.transition.bits

/-- DEEP_SLEEP_MODE: mode 1 retains RAM, mode 2 does not (R156, G12). -/
def sleepImage : SleepDepth → List Byte
  | .retainRam => [0x01]
  | .noRetain => [0x03]

end Sys2Proof

namespace Sys2Proof.Machine

/-! ### Step lists (R30, R173 to R187) -/

/-- Steps I0 to I13 of `Init` (R175). -/
def initSteps : List StepLabel :=
  [.i0, .i1, .i2, .i3, .i4, .i5, .i6, .i7, .i8, .i9, .i10, .i11, .i12, .i13]

/-- Steps W0 to W4 of UPDATE (R183). -/
def writeSteps : List StepLabel := [.w0, .w1, .w2, .w3, .w4]

/-- Steps A0 to A2 of DISPLAY (R184). -/
def activateSteps : List StepLabel := [.a0, .a1, .a2]

/-- Steps S0 to S3 of SLEEP (R186). -/
def sleepSteps : List StepLabel := [.s0, .s1, .s2, .s3]

/-- Steps P0 to P2 of SET_REFRESH_PROFILE (R187). -/
def profileSteps : List StepLabel := [.p0, .p1, .p2]

/-- The step list of a request, sub-sequences inlined (R30). -/
def stepsOf : Op → List StepLabel
  | .construct => initSteps
  | .wake => initSteps
  | .sleep => sleepSteps
  | .update _ => initSteps ++ writeSteps
  | .display => activateSteps
  | .updateAndDisplay _ => initSteps ++ writeSteps ++ activateSteps
  | .setRefreshProfile _ => profileSteps

/-- The step at which the sequencer stands, if there is one. -/
def SeqPos.label? : SeqPos → Option StepLabel
  | .ready => none
  | .running op k => (stepsOf op)[k]?

/-- What `ST` becomes when a step is about to be performed (R178, D20). -/
def stEntering (l : StepLabel) (st : St) : St :=
  match l with
  | .i0 => .initializing
  | .w0 => .writing
  | .a0 => .activating
  | _ => st

/-- What `ST` becomes when a step has completed (R178, D20). -/
def stLeaving (l : StepLabel) (st : St) : St :=
  match l with
  | .i13 => .idle
  | .w4 => .idle
  | .a2 => .idle
  | .s3 => .sleeping
  | _ => st

/-- What `ST` becomes when step `k` of a request has completed (log 6). -/
def stDone (op : Op) (k : Nat) (st : St) : St :=
  match (stepsOf op)[k]? with
  | some l => stLeaving l st
  | none => st

end Sys2Proof.Machine
end

