-- ==== Sys2Proof/Machine/Ops.lean ====
section
/-! DEFINITION. The named operations: the environment's answers, events, the shadow, the two exceptions, the advance of SEQ_POS, the four framer primitives (40_transport_framer.md) and the life of a request. -/

namespace Sys2Proof.Machine

/-! ### The environment (R6, R72, R125; log 3) -/

/-- Whether the n-th pin or bus action from now faults: the answer known, else a free value. -/
def Env.faultAt (e : Env) (n : Nat) : Bool :=
  (e.faults[n]?).getD (Config.actionFaults (e.actions + n))

/-- What the busy line reads at the n-th sample from now: the answer known, else a free value. -/
def Env.busyAt (e : Env) (n : Nat) : Level :=
  (e.busy[n]?).getD (Config.busyLevel (e.samples + n))

/-- The environment after `f` more actions and `b` more samples. -/
def Env.after (e : Env) (f b : Nat) : Env :=
  { busy := e.busy.drop b, faults := e.faults.drop f, samples := e.samples + b, actions := e.actions + f }

/-! ### The observable (R5, R10) -/

/-- `emit`, where the environment does not fault the action: append an event to the trace. -/
def State.emit (e : Event) (s : State) : State := { s with trace := s.trace ++ [e] }

/-- Deliver the result of a request to the host (R31, R101). -/
def State.answer (r : Result) (s : State) : State := { s with results := s.results ++ [r] }

/-! ### The shadow (R37, R38) -/

/-- `CTL[c]`. -/
def Ctl.get (t : Ctl) (c : Command) : ShadowEntry := t[c.index]

/-- `CTL[c] <- e`. -/
def Ctl.put (t : Ctl) (c : Command) (e : ShadowEntry) : Ctl := t.set c.index e

/-- `CtlWrite(c, bs)` with what is forgotten by it: everything when SW_RESET is sent (R38 (c), R141), the
entry of WRITE_RAM when DEEP_SLEEP_MODE is sent with the image of `NoRetain` (R38 (d); log 11). -/
def Ctl.sent (cfg : Cfg) (c : Command) (bs : List Byte) (t : Ctl) : Ctl :=
  let kept := if c = .swReset then Ctl.allUnknown else t
  let kept := if c = .deepSleepMode ∧ bs = cfg.paySleepNoRetain then kept.put .writeRam .unknown else kept
  kept.put c (.sent bs)

/-- `CtlWrite` on the state. -/
def State.ctlWrite (c : Command) (bs : List Byte) (s : State) : State :=
  { s with ctl := s.ctl.sent s.cfg c bs }

/-- What a fault that ends the frame of `c` does to the shadow (R38 (e)). -/
def State.ctlForget (c : Command) (s : State) : State := { s with ctl := s.ctl.put c .unknown }

/-! ### The two exceptions (R225, R226) -/

/-- Entry for `PreconditionViolation` (R225): nothing saved, nothing changed, the result at once. -/
def reject (why : Why) (s : State) : State := s.answer (.preconditionViolation why)

/-- Entry for `TransportFault` (R226). There is no return from it: only a request that runs `Init` leaves
`Faulted` (R229). -/
def transportFault (a : Action) (s : State) : State :=
  ({ s with st := .faulted, dc := .high, seqPos := .ready }.emit (.fault a)).answer .transportFault

/-! ### The end of a step and of a request (R30, R178) -/

/-- `return Ok`: the result to the host, the engine ready. -/
def finish (s : State) : State := { s with seqPos := .ready }.answer .ok

/-- A step has completed: SEQ_POS moves to the next step, or the request returns. With no request running
(a primitive on its own) there is nothing to advance. -/
def advance (s : State) : State :=
  match s.seqPos with
  | .ready => s
  | .running op k =>
    let st := stDone op k s.st
    match (stepsOf op)[k + 1]? with
    | some l => { s with st := stEntering l st, seqPos := .running op (k + 1) }
    | none => finish { s with st := st }

/-- A request has passed its checks: SEQ_POS stands at the first step of its list (R170, R171). -/
def start (op : Op) (s : State) : State :=
  match (stepsOf op)[0]? with
  | some l => { s with st := stEntering l s.st, seqPos := .running op 0 }
  | none => finish s

/-! ### Actions that can fault (R10, R125) -/

/-- Perform action `a`: the environment decides whether it faults (`lost` is what the fault leaves behind
before the entry of R226); else go on with `ok`. -/
def attempt (a : Action) (lost ok : State → State) (s : State) : State :=
  let t := { s with env := s.env.after 1 0 }
  if s.env.faultAt 0 then transportFault a (lost t) else ok t

/-! ### The framer primitives, each the whole of one step -/

/-- The event `RST(0)`: the line goes low and the shadow forgets (R121, R38 (b)). -/
def lowEdge (s : State) : State := { s with rst := .low, ctl := Ctl.allUnknown }.emit (.rst .low)

/-- The event `RST(1)` (R121). -/
def highEdge (s : State) : State := { s with rst := .high }.emit (.rst .high)

/-- `Reset(low, settle)` (R121). -/
def resetPulse (low settle : Nat) (s : State) : State :=
  attempt (.rst .low) id
    (fun s => attempt (.rst .high) id (fun s => advance ((highEdge s).emit (.delay settle)))
      ((lowEdge s).emit (.delay low))) s

/-- The command phase: the opcode byte with the select line low, which is driven back high (R92, R122, D6;
log 18). -/
def commandPhase (c : Command) (s : State) : State :=
  { { s with dc := .low }.emit (.cmd (s.cfg.opc.code c)) with dc := .high }

/-- The data phase of the frame of `c`, which completes the frame (R123). -/
def dataPhase (c : Command) (bs : List Byte) (s : State) : State := (s.emit (.data bs)).ctlWrite c bs

/-- `SendCommand(c)` (R122). -/
def sendCommand (c : Command) (s : State) : State :=
  attempt (.cmd (s.cfg.opc.code c)) (State.ctlForget c)
    (fun s => advance ((commandPhase c s).ctlWrite c [])) s

/-- `SendCommandWithData(c, bs)` (R123); with no bytes it means `SendCommand(c)` (D11). -/
def sendCommandWithData (c : Command) (bs : List Byte) (s : State) : State :=
  if bs.isEmpty then sendCommand c s
  else
    attempt (.cmd (s.cfg.opc.code c)) (State.ctlForget c)
      (fun s => attempt .data (State.ctlForget c) (fun s => advance (dataPhase c bs s))
        (commandPhase c s)) s

/-- The event `BUSY?(l)`: the environment answers one sample (R72, R124). -/
def sample (s : State) : State :=
  { s with env := s.env.after 0 1 }.emit (.busy (s.env.busyAt 0))

/-- One round of `WaitIdle()` (R124): sample; idle ends the wait, busy is followed by the poll delay and
leaves SEQ_POS where it is, so the next step samples again, without bound (R224). -/
def waitIdle (s : State) : State :=
  attempt .busy id
    (fun s =>
      if s.env.busyAt 0 = idleLevel then advance (sample s)
      else (sample s).emit (.delay s.cfg.pollDelay)) s

/-! ### SET_REFRESH_PROFILE's steps that send nothing (R187) -/

/-- Step P0: the requested profile is the current one, so return `Ok`; else go on. -/
def compareProfile (p : Profile) (s : State) : State := if p = s.profile then finish s else advance s

/-- Step P2: `PROFILE <- p`. -/
def loadProfile (p : Profile) (s : State) : State := advance { s with profile := p }

/-! ### The life of a request (R170, R171) -/

/-- Present request `i` to the engine: it is looked at only when SEQ_POS = Ready (R170, U14) and has no
meaning in a transient state (R23); the checks of R171 come before the first action of `body`. -/
def request (i : Instr) (body : State → State) (s : State) : Host.Outcome State Fault Refusal :=
  if s.seqPos ≠ .ready then .refused .requestWhileRunning
  else if s.st.transient then .refused .requestInTransientState
  else .next (match precheck i s.st with
    | some why => reject why s
    | none => body s)

end Sys2Proof.Machine
end

