-- ==== Sys2Proof/Machine/Commands.lean ====
section
/-! DEFINITION. The fifteen controller commands (41_command_vocabulary.md): each is sent through the framer with the payload it is given. -/

namespace Sys2Proof.Machine

/-- SW_RESET (R141): no payload; the shadow forgets everything, then records it. -/
def execSwReset (s : State) : Host.Outcome State Fault Refusal :=
  .next (sendCommand .swReset s)

/-- DRIVER_OUTPUT_CONTROL (R142): the engine passes `CFG.PAY_DOC` (gate count 249, `SCAN_FLAGS`). -/
def execDriverOutputControl (payload : List Byte) (s : State) : Host.Outcome State Fault Refusal :=
  .next (sendCommandWithData .driverOutputControl payload s)

/-- DATA_ENTRY_MODE (R143): the engine passes `CFG.PAY_DEM` (X decrement, Y increment, X first). -/
def execDataEntryMode (payload : List Byte) (s : State) : Host.Outcome State Fault Refusal :=
  .next (sendCommandWithData .dataEntryMode payload s)

/-- SET_RAM_X_WINDOW (R145): the engine passes `CFG.PAY_XWIN` (0 to 121). -/
def execSetRamXWindow (payload : List Byte) (s : State) : Host.Outcome State Fault Refusal :=
  .next (sendCommandWithData .setRamXWindow payload s)

/-- SET_RAM_Y_WINDOW (R146): the engine passes `CFG.PAY_YWIN` (0 to 249). -/
def execSetRamYWindow (payload : List Byte) (s : State) : Host.Outcome State Fault Refusal :=
  .next (sendCommandWithData .setRamYWindow payload s)

/-- BORDER_WAVEFORM_CONTROL (R147): the engine passes `CFG.PAY_BORDER`, one byte. -/
def execBorderWaveformControl (payload : List Byte) (s : State) : Host.Outcome State Fault Refusal :=
  .next (sendCommandWithData .borderWaveformControl payload s)

/-- DISPLAY_UPDATE_CONTROL_1 (R148): the engine passes `CFG.PAY_DUC1`. -/
def execDisplayUpdateControl1 (payload : List Byte) (s : State) : Host.Outcome State Fault Refusal :=
  .next (sendCommandWithData .displayUpdateControl1 payload s)

/-- TEMP_SENSOR_CONTROL (R149): the engine passes `CFG.PAY_TEMP`. -/
def execTempSensorControl (payload : List Byte) (s : State) : Host.Outcome State Fault Refusal :=
  .next (sendCommandWithData .tempSensorControl payload s)

/-- SET_RAM_X_COUNTER (R150): the engine passes `CFG.PAY_XCTR` (0). -/
def execSetRamXCounter (payload : List Byte) (s : State) : Host.Outcome State Fault Refusal :=
  .next (sendCommandWithData .setRamXCounter payload s)

/-- SET_RAM_Y_COUNTER (R151): the engine passes `CFG.PAY_YCTR` (0). -/
def execSetRamYCounter (payload : List Byte) (s : State) : Host.Outcome State Fault Refusal :=
  .next (sendCommandWithData .setRamYCounter payload s)

/-- WRITE_RAM (R152), the streaming store (R66): the engine passes the lent buffer, as one data phase. -/
def execWriteRam (payload : List Byte) (s : State) : Host.Outcome State Fault Refusal :=
  .next (sendCommandWithData .writeRam payload s)

/-- DISPLAY_UPDATE_CONTROL_2 (R153): the engine passes `PAY_DUC2_FULL` or `PAY_DUC2_SLEEP`. -/
def execDisplayUpdateControl2 (payload : List Byte) (s : State) : Host.Outcome State Fault Refusal :=
  .next (sendCommandWithData .displayUpdateControl2 payload s)

/-- MASTER_ACTIVATION (R154): no payload. -/
def execMasterActivation (s : State) : Host.Outcome State Fault Refusal :=
  .next (sendCommand .masterActivation s)

/-- WRITE_LUT_REGISTER (R155, R212): the engine passes `LUT(p)`, as one data phase. -/
def execWriteLutRegister (payload : List Byte) (s : State) : Host.Outcome State Fault Refusal :=
  .next (sendCommandWithData .writeLutRegister payload s)

/-- DEEP_SLEEP_MODE (R156): the engine passes `CFG.PAY_SLEEP(SLEEP_DEPTH)`. -/
def execDeepSleepMode (payload : List Byte) (s : State) : Host.Outcome State Fault Refusal :=
  .next (sendCommandWithData .deepSleepMode payload s)

end Sys2Proof.Machine
end

