-- ==== Sys2Proof/Machine/Requests.lean ====
section
/-! DEFINITION. The host requests (42_panel_state_machine.md). A request with a step list is started here and performed by the steps that follow (R30, log 5). -/

namespace Sys2Proof.Machine

/-- CONSTRUCT (R173): the three configuration registers are loaded before the first step of `Init`. -/
def execConstruct (s : State) : Host.Outcome State Fault Refusal :=
  request .construct (fun s => start .construct
    { s with profile := s.cfg.profileInit, bg := s.cfg.bgInit, sleepDepth := s.cfg.sleepDepthCfg }) s

/-- WAKE (R174): `Init`. -/
def execWake (s : State) : Host.Outcome State Fault Refusal :=
  request .wake (start .wake) s

/-- SLEEP (R186): in `Idle` only. -/
def execSleep (s : State) : Host.Outcome State Fault Refusal :=
  request .sleep (start .sleep) s

/-- UPDATE (R183): with a buffer of `FB_LEN` bytes; the buffer is lent to the running request. -/
def execUpdate (buf : List Byte) (s : State) : Host.Outcome State Fault Refusal :=
  request (.update buf) (start (.update buf)) s

/-- DISPLAY (R184): in `Idle` only. -/
def execDisplay (s : State) : Host.Outcome State Fault Refusal :=
  request .display (start .display) s

/-- UPDATE_AND_DISPLAY (R185). -/
def execUpdateAndDisplay (buf : List Byte) (s : State) : Host.Outcome State Fault Refusal :=
  request (.updateAndDisplay buf) (start (.updateAndDisplay buf)) s

/-- SET_REFRESH_PROFILE (R187): in `Idle` only. -/
def execSetRefreshProfile (p : Profile) (s : State) : Host.Outcome State Fault Refusal :=
  request (.setRefreshProfile p) (start (.setRefreshProfile p)) s

/-- SET_BACKGROUND_COLOR (R188): the register is written, nothing is sent. -/
def execSetBackgroundColor (color : Color) (s : State) : Host.Outcome State Fault Refusal :=
  request (.setBackgroundColor color) (fun s => { s with bg := color }.answer .ok) s

/-- WIDTH (R189): the constant 122. -/
def execWidth (s : State) : Host.Outcome State Fault Refusal :=
  request .width (State.answer (.okValue (BitVec.ofNat 16 panelWidth))) s

/-- HEIGHT (R192): the constant 250. -/
def execHeight (s : State) : Host.Outcome State Fault Refusal :=
  request .height (State.answer (.okValue (BitVec.ofNat 16 panelHeight))) s

/-- UPDATE_PARTIAL (R190): its check always fails, so it has no body. -/
def execUpdatePartial (s : State) : Host.Outcome State Fault Refusal :=
  request .updatePartial id s

/-- CLEAR_FRAME (R191): its check always fails, so it has no body. -/
def execClearFrame (s : State) : Host.Outcome State Fault Refusal :=
  request .clearFrame id s

/-- The reserved codes 12 to 15 (R193): their check always fails, so they have no body. -/
def execReserved (code : BitVec 2) (s : State) : Host.Outcome State Fault Refusal :=
  request (.reserved code) id s

end Sys2Proof.Machine
end

