-- ==== Sys2Proof/Machine/Dispatch.lean ====
section
/-! DEFINITION. The dispatch: one arm per constructor of Instr, each one direct call of its meaning. -/

namespace Sys2Proof.Machine

def exec (i : Instr) (s : State) : Host.Outcome State Fault Refusal :=
  match i with
  | .swReset => Sys2Proof.Machine.execSwReset s
  | .driverOutputControl payload => Sys2Proof.Machine.execDriverOutputControl payload s
  | .dataEntryMode payload => Sys2Proof.Machine.execDataEntryMode payload s
  | .setRamXWindow payload => Sys2Proof.Machine.execSetRamXWindow payload s
  | .setRamYWindow payload => Sys2Proof.Machine.execSetRamYWindow payload s
  | .borderWaveformControl payload => Sys2Proof.Machine.execBorderWaveformControl payload s
  | .displayUpdateControl1 payload => Sys2Proof.Machine.execDisplayUpdateControl1 payload s
  | .tempSensorControl payload => Sys2Proof.Machine.execTempSensorControl payload s
  | .setRamXCounter payload => Sys2Proof.Machine.execSetRamXCounter payload s
  | .setRamYCounter payload => Sys2Proof.Machine.execSetRamYCounter payload s
  | .writeRam payload => Sys2Proof.Machine.execWriteRam payload s
  | .displayUpdateControl2 payload => Sys2Proof.Machine.execDisplayUpdateControl2 payload s
  | .masterActivation => Sys2Proof.Machine.execMasterActivation s
  | .writeLutRegister payload => Sys2Proof.Machine.execWriteLutRegister payload s
  | .deepSleepMode payload => Sys2Proof.Machine.execDeepSleepMode payload s
  | .construct => Sys2Proof.Machine.execConstruct s
  | .wake => Sys2Proof.Machine.execWake s
  | .sleep => Sys2Proof.Machine.execSleep s
  | .update buf => Sys2Proof.Machine.execUpdate buf s
  | .display => Sys2Proof.Machine.execDisplay s
  | .updateAndDisplay buf => Sys2Proof.Machine.execUpdateAndDisplay buf s
  | .setRefreshProfile p => Sys2Proof.Machine.execSetRefreshProfile p s
  | .setBackgroundColor color => Sys2Proof.Machine.execSetBackgroundColor color s
  | .width => Sys2Proof.Machine.execWidth s
  | .height => Sys2Proof.Machine.execHeight s
  | .updatePartial => Sys2Proof.Machine.execUpdatePartial s
  | .clearFrame => Sys2Proof.Machine.execClearFrame s
  | .reserved code => Sys2Proof.Machine.execReserved code s

end Sys2Proof.Machine
end

