-- ==== Sys2Proof/Machine/Fetch.lean ====
section
/-! DEFINITION. What the next step performs (10_state.md R30, R170) and where a word of the opcode table is placed for it. -/

namespace Sys2Proof.Machine

/-- What the next step performs. -/
inductive Fetched
  /-- no request running and none presented: the engine does nothing (R42, R250) -/
  | waiting
  /-- an instruction, in the state it is performed in -/
  | instr (i : Instr) (s : State)
  /-- the primitive `Reset`, with the durations of R126 -/
  | reset
  /-- one round of the primitive `WaitIdle` -/
  | wait
  /-- step P0 -/
  | compare (p : Profile)
  /-- step P2 -/
  | load (p : Profile)
  /-- SEQ_POS holds an index its step list lacks, or a step that its request has no operand for -/
  | bad
  deriving DecidableEq, Repr

/-- The buffer lent to a request (R60, R70). -/
def Op.buf? : Op → Option (List Byte)
  | .update buf => some buf
  | .updateAndDisplay buf => some buf
  | .construct => none
  | .wake => none
  | .sleep => none
  | .display => none
  | .setRefreshProfile _ => none

/-- The profile operand of a request (R187). -/
def Op.profile? : Op → Option Profile
  | .setRefreshProfile p => some p
  | .construct => none
  | .wake => none
  | .sleep => none
  | .update _ => none
  | .display => none
  | .updateAndDisplay _ => none

/-- What each numbered step performs (R175, R183, R184, R186, R187). -/
def performs (s : State) (op : Op) (l : StepLabel) : Fetched :=
  match l with
  | .i0 => .reset
  | .i1 => .wait
  | .i2 => .instr .swReset s
  | .i3 => .wait
  | .i4 => .instr (.driverOutputControl s.cfg.payDoc) s
  | .i5 => .instr (.dataEntryMode s.cfg.payDem) s
  | .i6 => .instr (.setRamXWindow s.cfg.payXwin) s
  | .i7 => .instr (.setRamYWindow s.cfg.payYwin) s
  | .i8 => .instr (.borderWaveformControl [s.cfg.payBorder]) s
  | .i9 => .instr (.displayUpdateControl1 s.cfg.payDuc1) s
  | .i10 => .instr (.tempSensorControl s.cfg.payTemp) s
  | .i11 => .instr (.setRamXCounter s.cfg.payXctr) s
  | .i12 => .instr (.setRamYCounter s.cfg.payYctr) s
  | .i13 => .wait
  | .w0 => .instr (.setRamXWindow s.cfg.payXwin) s
  | .w1 => .instr (.setRamYWindow s.cfg.payYwin) s
  | .w2 => .instr (.setRamXCounter s.cfg.payXctr) s
  | .w3 => .instr (.setRamYCounter s.cfg.payYctr) s
  | .w4 => match op.buf? with
    | some buf => .instr (.writeRam buf) s
    | none => .bad
  | .a0 => .instr (.displayUpdateControl2 [s.cfg.payDuc2Full]) s
  | .a1 => .instr .masterActivation s
  | .a2 => .wait
  | .s0 => .wait
  | .s1 => .instr (.displayUpdateControl2 [s.cfg.payDuc2Sleep]) s
  | .s2 => .instr .masterActivation s
  | .s3 => .instr (.deepSleepMode (s.cfg.paySleep s.sleepDepth)) s
  | .p0 => match op.profile? with
    | some p => .compare p
    | none => .bad
  | .p1 => match op.profile? with
    | some p => .instr (.writeLutRegister (s.cfg.lut p)) s
    | none => .bad
  | .p2 => match op.profile? with
    | some p => .load p
    | none => .bad

/-- The fetch: at Ready the next request the host presents, taken off its script (R170); else the step at
SEQ_POS. -/
def fetch (s : State) : Fetched :=
  match s.seqPos with
  | .ready =>
    match s.script with
    | [] => .waiting
    | r :: rest => .instr (decodeRequest r.word r.buf) { s with script := rest }
  | .running op k =>
    match (stepsOf op)[k]? with
    | some l => performs s op l
    | none => .bad

/-! ### Placing a word of the opcode table (log 16) -/


/-- A request is placed where the host presents it, before what else it will present. -/
def placeRequest (word : Byte) (buf : List Byte) (s : State) : State :=
  { s with seqPos := .ready, script := ⟨word, buf⟩ :: s.script }

/-- The engine at step `k` of `op`, as it stands there in a run. -/
def placeAt (op : Op) (k : Nat) (st : St) (s : State) : State :=
  { s with seqPos := .running op k, st := st }

/-- A command is placed by standing at a step that sends it, its payload being the image CFG holds for
that step or the buffer lent. -/
def placeCommand (c : Command) (bs : List Byte) (s : State) : State :=
  match c with
  | .swReset => placeAt .wake 2 .initializing s
  | .driverOutputControl => placeAt .wake 4 .initializing { s with cfg := { s.cfg with payDoc := bs } }
  | .dataEntryMode => placeAt .wake 5 .initializing { s with cfg := { s.cfg with payDem := bs } }
  | .setRamXWindow => placeAt .wake 6 .initializing { s with cfg := { s.cfg with payXwin := bs } }
  | .setRamYWindow => placeAt .wake 7 .initializing { s with cfg := { s.cfg with payYwin := bs } }
  | .borderWaveformControl =>
    placeAt .wake 8 .initializing { s with cfg := { s.cfg with payBorder := bs.headD 0 } }
  | .displayUpdateControl1 => placeAt .wake 9 .initializing { s with cfg := { s.cfg with payDuc1 := bs } }
  | .tempSensorControl => placeAt .wake 10 .initializing { s with cfg := { s.cfg with payTemp := bs } }
  | .setRamXCounter => placeAt .wake 11 .initializing { s with cfg := { s.cfg with payXctr := bs } }
  | .setRamYCounter => placeAt .wake 12 .initializing { s with cfg := { s.cfg with payYctr := bs } }
  | .writeRam => placeAt (.update bs) 18 .writing s
  | .displayUpdateControl2 =>
    placeAt .display 0 .activating { s with cfg := { s.cfg with payDuc2Full := bs.headD 0 } }
  | .masterActivation => placeAt .display 1 .activating s
  | .writeLutRegister =>
    match s.profile with
    | .full => placeAt (.setRefreshProfile .quick) 1 .idle { s with cfg := { s.cfg with lutQuick := bs } }
    | .quick => placeAt (.setRefreshProfile .full) 1 .idle { s with cfg := { s.cfg with lutFull := bs } }
  | .deepSleepMode =>
    match s.sleepDepth with
    | .retainRam => placeAt .sleep 3 .idle { s with cfg := { s.cfg with paySleepRetain := bs } }
    | .noRetain => placeAt .sleep 3 .idle { s with cfg := { s.cfg with paySleepNoRetain := bs } }

/-- `State.withFetchWord`. A word that is no instruction changes nothing. -/
def placeTableWord (s : State) (nbits w : Nat) : State :=
  match decodeTableWord nbits w with
  | none => s
  | some i =>
    match i.command? with
    | some (c, bs) => placeCommand c bs s
    | none =>
      match tableWords (BitVec.ofNat 8 w) with
      | .request word buf => placeRequest word buf s
      | .frame _ _ => s

end Sys2Proof.Machine
end

