-- ==== Sys2Proof/Machine/Step.lean ====
section
/-! DEFINITION. One step of the engine. -/

namespace Sys2Proof.Machine

/-- One step: a request accepted or answered, one numbered step of the running request, or nothing (R30,
R170). It is one to four framer events; `event` (Machine/Events.lean) is the engine stepping by one (R5;
log 5). -/
def step (s : State) : Host.Outcome State Fault Refusal :=
  match fetch s with
  | .waiting => .next s
  | .instr i t => exec i t
  | .reset => .next (resetPulse s.cfg.resetLow s.cfg.resetSettle s)
  | .wait => .next (waitIdle s)
  | .compare p => .next (compareProfile p s)
  | .load p => .next (loadProfile p s)
  | .bad => .fault .badSeqPos

/-- The state with a word of the opcode table placed where `step` fetches next (log 16). -/
def State.withFetchWord (s : State) (nbits w : Nat) : State := placeTableWord s nbits w

end Sys2Proof.Machine
end

