-- ==== Sys2Proof/Machine/Events.lean ====
section
/-! DEFINITION. The engine at the level of R5 (00_scope.md): a sequential machine whose steps are framer events, with the states that stand between the events of one numbered step. -/

namespace Sys2Proof.Machine

/-- Which event of the numbered step at SEQ_POS is performed next. -/
inductive Phase
  /-- the first event of the numbered step, or what it does without one -/
  | start
  /-- `RST(0)` is done: the delay of the pulse (R121) -/
  | pulseLow
  /-- the rising edge `RST(1)` (R121) -/
  | pulseHigh
  /-- `RST(1)` is done: the settling delay (R121) -/
  | pulseSettle
  /-- the command phase of `c` is done: its data phase (R123) -/
  | data (c : Command) (bs : List Byte)
  /-- the line read busy: the poll delay (R124) -/
  | poll
  deriving DecidableEq, Repr

/-- The engine between two framer events: the registers and what comes next (log 5). -/
structure EventState where
  state : State
  phase : Phase
  deriving DecidableEq, Repr

/-- Perform the event of action `a`: a fault ends the request (R226), else `next` comes after it. -/
def attemptEvent (a : Action) (lost ok : State → State) (next : Phase) (s : State) : EventState :=
  { state := attempt a lost ok s
    phase := if s.env.faultAt 0 then .start else next }

/-- The event `CMD` of a frame (R90): with no data phase it completes the frame. -/
def commandEvent (c : Command) (bs : List Byte) (s : State) : EventState :=
  if bs.isEmpty then
    attemptEvent (.cmd (s.cfg.opc.code c)) (State.ctlForget c)
      (fun s => advance ((commandPhase c s).ctlWrite c [])) .start s
  else attemptEvent (.cmd (s.cfg.opc.code c)) (State.ctlForget c) (commandPhase c) (.data c bs) s

/-- The event `BUSY?` of a wait (R124). -/
def sampleEvent (s : State) : EventState :=
  attemptEvent .busy id (fun s => if s.env.busyAt 0 = idleLevel then advance (sample s) else sample s)
    (if s.env.busyAt 0 = idleLevel then .start else .poll) s

/-- The first event of the numbered step at SEQ_POS. Accepting or answering a request, and steps P0 and P2,
have no event (R171, R187). -/
def firstEvent (s : State) : Host.Outcome EventState Fault Refusal :=
  match fetch s with
  | .waiting => .next ⟨s, .start⟩
  | .instr i t =>
    match i.command? with
    | some (c, bs) => .next (commandEvent c bs t)
    | none =>
      match exec i t with
      | .next u => .next ⟨u, .start⟩
      | .fault r => .fault r
      | .refused r => .refused r
  | .reset => .next (attemptEvent (.rst .low) id lowEdge .pulseLow s)
  | .wait => .next (sampleEvent s)
  | .compare p => .next ⟨compareProfile p s, .start⟩
  | .load p => .next ⟨loadProfile p s, .start⟩
  | .bad => .fault .badSeqPos

/-- One step at the level of R5: one framer event. -/
def event (m : EventState) : Host.Outcome EventState Fault Refusal :=
  match m.phase with
  | .start => firstEvent m.state
  | .pulseLow => .next ⟨m.state.emit (.delay m.state.cfg.resetLow), .pulseHigh⟩
  | .pulseHigh => .next (attemptEvent (.rst .high) id highEdge .pulseSettle m.state)
  | .pulseSettle => .next ⟨advance (m.state.emit (.delay m.state.cfg.resetSettle)), .start⟩
  | .data c bs =>
    .next (attemptEvent .data (State.ctlForget c) (fun s => advance (dataPhase c bs s)) .start m.state)
  | .poll => .next ⟨m.state.emit (.delay m.state.cfg.pollDelay), .start⟩

/-- `k` events, stopping at the first fault or refusal. -/
def eventRun : Nat → EventState → Host.Outcome EventState Fault Refusal
  | 0, m => .next m
  | k + 1, m =>
    match event m with
    | .next n => eventRun k n
    | .fault r => .fault r
    | .refused r => .refused r

end Sys2Proof.Machine
end

