-- ==== Sys2Proof/Safety.lean ====
section
/-! DEFINITION. The terms claims are made in: the invariant of the sequencer, properties of traces, the shadow as a function of the trace, runs, and what the environment is assumed to answer. -/

namespace Sys2Proof.Machine

/-! ### What the environment answers -/

/-- None of the next `n` pin or bus actions faults. -/
abbrev Env.Quiet (e : Env) (n : Nat) : Prop := ∀ i < n, e.faultAt i = false

/-- The next samples read these levels. -/
abbrev Env.Reads (e : Env) (ls : List Level) : Prop := ∀ i < ls.length, some (e.busyAt i) = ls[i]?

/-- A wait that reads busy `n` times and then idle (R94, R124). -/
def waits (n : Nat) : List Level := List.replicate n .low ++ [.high]

/-! ### Runs (R254) -/

/-- `k` steps, stopping at the first fault or refusal. -/
def run : Nat → State → Host.Outcome State Fault Refusal
  | 0, s => .next s
  | k + 1, s =>
    match step s with
    | .next t => run k t
    | .fault r => .fault r
    | .refused r => .refused r

/-- A request presented to the engine and `k` steps of it. -/
def performed (i : Instr) (k : Nat) (s : State) : Host.Outcome State Fault Refusal :=
  match exec i s with
  | .next t => run k t
  | o => o

/-- A run (R254): the requests issued one after another from the reset state, and the environment's
answers. -/
structure Run where
  cfg : Cfg
  requests : List HostReq
  answers : Env
  deriving DecidableEq, Repr

/-- The reset state with the requests of the run to be issued. -/
def Run.begin (r : Run) : State :=
  { State.resetWith r.cfg with
    script := r.requests
    env := r.answers }

/-- A run is over when the last request has returned and SEQ_POS = Ready (R254): none is running and none is
left to be issued. -/
def State.over (s : State) : Bool := s.seqPos == .ready && s.script.isEmpty

/-- The result a final run may end with: `Ok`, `Ok(value)` or an expected rejection (R254). -/
def Result.asExpected (expected : Why → Bool) : Result → Bool
  | .ok => true
  | .okValue _ => true
  | .preconditionViolation why => expected why
  | .transportFault => false

/-- A run is final when it is over, its last result is as the claim expected, and `ST` is `Idle` or
`Sleeping` (R254; log 19). -/
def State.final (expected : Why → Bool) (s : State) : Bool :=
  s.over && s.results.getLast?.any (Result.asExpected expected) && (s.st == .idle || s.st == .sleeping)

/-- An event that records a fault. -/
def Event.isFault : Event → Bool
  | .fault _ => true
  | .rst _ => false
  | .delay _ => false
  | .busy _ => false
  | .cmd _ => false
  | .data _ => false

/-- A run has gone wrong when it is over with `ST` = `Faulted`, or its trace contains `FAULT` (R254). -/
def State.goneWrong (s : State) : Bool := (s.over && s.st == .faulted) || s.trace.any Event.isFault

/-- A hang is a run in which some request never returns, so it is never over (R254, R224). -/
def Run.hangs (r : Run) : Prop :=
  ∃ j, ∀ k, j ≤ k → ∃ t, run k r.begin = .next t ∧ t.seqPos ≠ .ready

/-! ### The invariant of the sequencer (R21, R23, R26, R63, R67, R178, R187) -/

/-- The value of `ST` while a step is the one to be performed (R178, D20). -/
def stAt : StepLabel → St
  | .i0 | .i1 | .i2 | .i3 | .i4 | .i5 | .i6 | .i7 | .i8 | .i9 | .i10 | .i11 | .i12 | .i13 =>
    .initializing
  | .w0 | .w1 | .w2 | .w3 | .w4 => .writing
  | .a0 | .a1 | .a2 => .activating
  | .s0 | .s1 | .s2 | .s3 => .idle
  | .p0 | .p1 | .p2 => .idle

/-- The operand of a running request has passed its check: a lent buffer has `FB_LEN` bytes (R67); past
step P0 the requested profile differs from the current one (R187). -/
def operandChecked (op : Op) (k : Nat) (current : Profile) : Bool :=
  match op with
  | .update buf => buf.length == fbLen
  | .updateAndDisplay buf => buf.length == fbLen
  | .setRefreshProfile p => k == 0 || p != current
  | .construct => true
  | .wake => true
  | .sleep => true
  | .display => true

/-- The invariant: with no request running `ST` is not transient (R23); a running request stands at a step
of its list with the `ST` of that step and a checked operand; `SLEEP_DEPTH` is the configured one (R26). -/
def State.inv (s : State) : Bool :=
  (match s.seqPos with
    | .ready => !s.st.transient
    | .running op k =>
      match (stepsOf op)[k]? with
      | some l => s.st == stAt l && operandChecked op k s.profile
      | none => false) &&
  s.sleepDepth == s.cfg.sleepDepthCfg

/-! ### Traces (R5, R90 to R94) -/

end Sys2Proof.Machine

namespace Sys2Proof

open Machine

/-- The frame of a command with a payload (R90). -/
def Cfg.frame (c : Cfg) (cmd : Command) (bs : List Byte) : List Event := [.cmd (c.opc.code cmd), .data bs]

/-- The reset pulse (R94). -/
def Cfg.pulse (c : Cfg) : List Event :=
  [.rst .low, .delay c.resetLow, .rst .high, .delay c.resetSettle]

/-- A wait that reads busy `n` times and then idle (R94). -/
def Cfg.poll (c : Cfg) (n : Nat) : List Event :=
  (List.replicate n [Event.busy .low, Event.delay c.pollDelay]).flatten ++ [.busy .high]

/-- The trace of `Init` (R175), its three waits reading busy `n1`, `n3` and `n13` times. -/
def Cfg.initTrace (c : Cfg) (n1 n3 n13 : Nat) : List Event :=
  c.pulse ++ c.poll n1 ++ [.cmd (c.opc.code .swReset)] ++ c.poll n3 ++
  c.frame .driverOutputControl c.payDoc ++ c.frame .dataEntryMode c.payDem ++
  c.frame .setRamXWindow c.payXwin ++ c.frame .setRamYWindow c.payYwin ++
  c.frame .borderWaveformControl [c.payBorder] ++ c.frame .displayUpdateControl1 c.payDuc1 ++
  c.frame .tempSensorControl c.payTemp ++ c.frame .setRamXCounter c.payXctr ++
  c.frame .setRamYCounter c.payYctr ++ c.poll n13

/-- The trace of steps W0 to W4 (R183). -/
def Cfg.writeTrace (c : Cfg) (buf : List Byte) : List Event :=
  c.frame .setRamXWindow c.payXwin ++ c.frame .setRamYWindow c.payYwin ++
  c.frame .setRamXCounter c.payXctr ++ c.frame .setRamYCounter c.payYctr ++ c.frame .writeRam buf

/-- The trace of DISPLAY (R184), its wait reading busy `n` times. -/
def Cfg.activateTrace (c : Cfg) (n : Nat) : List Event :=
  c.frame .displayUpdateControl2 [c.payDuc2Full] ++ [.cmd (c.opc.code .masterActivation)] ++ c.poll n

/-- The trace of SLEEP (R186), its wait reading busy `n` times. -/
def Cfg.sleepTrace (c : Cfg) (d : SleepDepth) (n : Nat) : List Event :=
  c.poll n ++ c.frame .displayUpdateControl2 [c.payDuc2Sleep] ++
  [.cmd (c.opc.code .masterActivation)] ++ c.frame .deepSleepMode (c.paySleep d)

end Sys2Proof

namespace Sys2Proof.Machine

/-- Every `DATA` event directly follows a `CMD` event (R91); `afterCmd` says whether the event before the
list is one. -/
def dataFollowsCmd : (afterCmd : Bool) → List Event → Bool
  | _, [] => true
  | afterCmd, .data _ :: es => afterCmd && dataFollowsCmd false es
  | _, .cmd _ :: es => dataFollowsCmd true es
  | _, _ :: es => dataFollowsCmd false es

/-- No event of the list is a command phase. -/
def noCommand (es : List Event) : Bool :=
  es.all (fun e => match e with
    | .cmd _ => false
    | _ => true)

/-- Every `MASTER_ACTIVATION` is directly preceded by a `DISPLAY_UPDATE_CONTROL_2` frame (R154). -/
def ActivationsStaged (o : OpcMap) (tr : List Event) : Prop :=
  ∀ pre post, tr = pre ++ .cmd (o.code .masterActivation) :: post →
    ∃ front bs, pre = front ++ [.cmd (o.code .displayUpdateControl2), .data bs]

/-- A reset pulse that keeps the two minimum durations, then events without a command (R257). -/
def PulsedThen (tail : List Event → Prop) (tr : List Event) : Prop :=
  ∃ front low settle rest, resetLowMin ≤ low ∧ resetSettleMin ≤ settle ∧
    tr = front ++ [.rst .low, .delay low, .rst .high, .delay settle] ++ rest ∧ tail rest

/-- The first command byte of a trace is SW_RESET, preceded by a reset pulse that keeps the minimum
durations and then an idle reading (R175, R255, R257). -/
def FirstCommandReset (o : OpcMap) (tr : List Event) : Prop :=
  ∀ pre b post, tr = pre ++ .cmd b :: post → noCommand pre = true →
    b = o.code .swReset ∧ PulsedThen (fun rest => Event.busy .high ∈ rest) pre

/-! ### The shadow (R37, R38) -/

/-- The shadow after a list of events, from the shadow before it. -/
def Ctl.follow (cfg : Cfg) (t : Ctl) : List Event → Ctl
  | [] => t
  | .rst .low :: es => Ctl.follow cfg Ctl.allUnknown es
  | .cmd b :: .data bs :: es =>
    Ctl.follow cfg (match decodeCommandByte cfg.opc b with
      | some c => t.sent cfg c bs
      | none => t) es
  | .cmd b :: .fault .data :: es =>
    Ctl.follow cfg (match decodeCommandByte cfg.opc b with
      | some c => t.put c .unknown
      | none => t) es
  | .cmd b :: es =>
    Ctl.follow cfg (match decodeCommandByte cfg.opc b with
      | some c => t.sent cfg c []
      | none => t) es
  | .fault (.cmd b) :: es =>
    Ctl.follow cfg (match decodeCommandByte cfg.opc b with
      | some c => t.put c .unknown
      | none => t) es
  | _ :: es => Ctl.follow cfg t es

/-- The shadow as a function of the trace alone (R37): it says no more than the trace does (R41). -/
def shadowOf (cfg : Cfg) (tr : List Event) : Ctl := Ctl.follow cfg Ctl.allUnknown tr

/-- The shadow after `Init` has run with no fault (R175, R37). -/
def Ctl.afterInit (cfg : Cfg) : Ctl :=
  Ctl.allUnknown
    |>.sent cfg .swReset []
    |>.sent cfg .driverOutputControl cfg.payDoc
    |>.sent cfg .dataEntryMode cfg.payDem
    |>.sent cfg .setRamXWindow cfg.payXwin
    |>.sent cfg .setRamYWindow cfg.payYwin
    |>.sent cfg .borderWaveformControl [cfg.payBorder]
    |>.sent cfg .displayUpdateControl1 cfg.payDuc1
    |>.sent cfg .tempSensorControl cfg.payTemp
    |>.sent cfg .setRamXCounter cfg.payXctr
    |>.sent cfg .setRamYCounter cfg.payYctr

/-- The shadow after steps W0 to W4 (R183). -/
def Ctl.afterWrite (cfg : Cfg) (buf : List Byte) (t : Ctl) : Ctl :=
  t |>.sent cfg .setRamXWindow cfg.payXwin
    |>.sent cfg .setRamYWindow cfg.payYwin
    |>.sent cfg .setRamXCounter cfg.payXctr
    |>.sent cfg .setRamYCounter cfg.payYctr
    |>.sent cfg .writeRam buf

/-- The shadow after DISPLAY (R184). -/
def Ctl.afterActivate (cfg : Cfg) (t : Ctl) : Ctl :=
  t |>.sent cfg .displayUpdateControl2 [cfg.payDuc2Full] |>.sent cfg .masterActivation []

/-! ### Changes of ST (R178) -/

/-- The rows of R178's table. -/
def stEdge : St → St → Bool
  | .uninitialized, .initializing => true
  | .idle, .initializing => true
  | .sleeping, .initializing => true
  | .faulted, .initializing => true
  | .initializing, .idle => true
  | .idle, .writing => true
  | .writing, .idle => true
  | .idle, .activating => true
  | .activating, .idle => true
  | .idle, .sleeping => true
  | .initializing, .faulted => true
  | .writing, .faulted => true
  | .activating, .faulted => true
  | .idle, .faulted => true
  | _, _ => false

/-! ### Comparing runs (R25, R37) -/

/-- Two states that agree but for what no rule reads: `BG` and the shadow. -/
def SameButUnread (s t : State) : Prop := t = { s with bg := t.bg, ctl := t.ctl }

/-- Two outcomes that agree in the same sense. -/
def SameOutcomeButUnread : Host.Outcome State Fault Refusal → Host.Outcome State Fault Refusal → Prop
  | .next s, .next t => SameButUnread s t
  | .fault r, .fault r' => r = r'
  | .refused r, .refused r' => r = r'
  | _, _ => False

/-- A state with the running request replaced, at the same step. -/
def State.withOp (op : Op) (s : State) : State :=
  match s.seqPos with
  | .ready => s
  | .running _ k => { s with seqPos := .running op k }

end Sys2Proof.Machine
end

