-- ==== Sys2Proof/Certificates/Slice0/Obligations.lean ====
section
/-! DEFINITION. The statements for the provers. A statement over all states is one over all CFG, since the configuration is a field of the state (log 1). No statement fixes the level of the select line between frames (R92 asks for none): where a frame was sent, it is some level `d`. -/

open Sys2Proof Sys2Proof.Machine

/-! ### Encodings -/

/-- A few words written out from R97 (with the bytes of CFG_GK, log 1) and R99 decode to what they stand
for, and an opcode byte of no command is invalid. -/
def Obligations.WrittenOutWordsDecode : Prop :=
  decode opcGk (.frame 0x12 []) = .ok .swReset ∧
  decode opcGk (.frame 0x45 [0x00, 0x00, 0xF9, 0x00]) = .ok (.setRamYWindow [0x00, 0x00, 0xF9, 0x00]) ∧
  decode opcGk (.frame 0x22 [0xC7]) = .ok (.displayUpdateControl2 [0xC7]) ∧
  decode opcGk (.frame 0x99 []) = .error (.invalid 0x99) ∧
  decode opcGk (.request 0x16 []) = .ok (.setRefreshProfile .quick) ∧
  decode opcGk (.request 0xE3 [0xA5]) = .ok (.update [0xA5]) ∧
  decode opcGk (.request 0x1E []) = .ok (.reserved 2)

/-- Decoding the encoding of a well-formed instruction gives it back, for all 28 constructors, every
operand and every injective opcode map. -/
def Obligations.DecodeOfEncode : Prop :=
  ∀ (o : OpcMap) (i : Instr), o.Injective → i.wf = true → decode o (encode o i) = .ok i

/-- A raw byte stream made of the frames of well-formed commands, one after another, is cut and decoded
into exactly those commands (R93). -/
def Obligations.StreamOfFramesDecodes : Prop :=
  ∀ (o : OpcMap) (is : List Instr), o.Injective →
    (∀ i ∈ is, i.wf = true ∧ i.command?.isSome = true) →
    decodeStream o (is.flatMap (fun i => (encode o i).wire)) = is.map Except.ok

/-- The request each code selects (R99), for every word and buffer. -/
def Obligations.RequestCodesSelect : Prop :=
  ∀ (w : Byte) (buf : List Byte),
    (reqCode w = 0 → decodeRequest w buf = .construct) ∧
    (reqCode w = 1 → decodeRequest w buf = .wake) ∧
    (reqCode w = 2 → decodeRequest w buf = .sleep) ∧
    (reqCode w = 3 → decodeRequest w buf = .update buf) ∧
    (reqCode w = 4 → decodeRequest w buf = .display) ∧
    (reqCode w = 5 → decodeRequest w buf = .updateAndDisplay buf) ∧
    (reqCode w = 6 → reqArg w = 0 → decodeRequest w buf = .setRefreshProfile .full) ∧
    (reqCode w = 6 → reqArg w = 1 → decodeRequest w buf = .setRefreshProfile .quick) ∧
    (reqCode w = 7 → reqArg w = 0 → decodeRequest w buf = .setBackgroundColor .black) ∧
    (reqCode w = 7 → reqArg w = 1 → decodeRequest w buf = .setBackgroundColor .white) ∧
    (reqCode w = 8 → decodeRequest w buf = .width) ∧
    (reqCode w = 9 → decodeRequest w buf = .height) ∧
    (reqCode w = 10 → decodeRequest w buf = .updatePartial) ∧
    (reqCode w = 11 → decodeRequest w buf = .clearFrame) ∧
    (12 ≤ reqCode w → ∃ code, decodeRequest w buf = .reserved code)

/-- Bits 7 to 5 of a request word are ignored, and so is bit 4 for every request but
SET_REFRESH_PROFILE and SET_BACKGROUND_COLOR (R96, R102 (c)). -/
def Obligations.IgnoredRequestBits : Prop :=
  ∀ (w w' : Byte) (buf : List Byte), reqCode w = reqCode w' →
    (reqArg w = reqArg w' ∨ (reqCode w ≠ 6 ∧ reqCode w ≠ 7)) →
    decodeRequest w buf = decodeRequest w' buf

/-- The command of an opcode byte is the unique one with that byte, if there is one; a byte that has none
is invalid whatever follows it (R98). -/
def Obligations.OpcodeByteDecodes : Prop :=
  ∀ (o : OpcMap) (b : Byte) (data : List Byte), o.Injective →
    (∀ c, decodeCommandByte o b = some c ↔ o.code c = b) ∧
    ((∀ c, o.code c ≠ b) → decodeFrame o b data = .error (.invalid b))

/-! ### The step -/

/-- At Ready a step runs the decoded instruction of the next presented request, which is taken off the
host's script; with none presented the engine does nothing (R42, R250; log 8). -/
def Obligations.StepRunsPresentedRequest : Prop :=
  ∀ s : State, s.seqPos = .ready →
    (∀ r rest i, s.script = r :: rest → decode s.cfg.opc (.request r.word r.buf) = .ok i →
      step s = exec i { s with script := rest }) ∧
    (s.script = [] → step s = .next s)

/-- At a step that sends a command, `step` is `exec` of that command with the bytes the rules name: the
images of CFG, the lent buffer, the requested waveform table, the image of the sleep depth. -/
def Obligations.StepRunsCommandOfPosition : Prop :=
  ∀ (s : State) (op : Op) (k : Nat) (l : StepLabel),
    s.seqPos = .running op k → (stepsOf op)[k]? = some l →
    (l = .i2 → step s = exec .swReset s) ∧
    (l = .i4 → step s = exec (.driverOutputControl s.cfg.payDoc) s) ∧
    (l = .i5 → step s = exec (.dataEntryMode s.cfg.payDem) s) ∧
    (l = .i6 ∨ l = .w0 → step s = exec (.setRamXWindow s.cfg.payXwin) s) ∧
    (l = .i7 ∨ l = .w1 → step s = exec (.setRamYWindow s.cfg.payYwin) s) ∧
    (l = .i8 → step s = exec (.borderWaveformControl [s.cfg.payBorder]) s) ∧
    (l = .i9 → step s = exec (.displayUpdateControl1 s.cfg.payDuc1) s) ∧
    (l = .i10 → step s = exec (.tempSensorControl s.cfg.payTemp) s) ∧
    (l = .i11 ∨ l = .w2 → step s = exec (.setRamXCounter s.cfg.payXctr) s) ∧
    (l = .i12 ∨ l = .w3 → step s = exec (.setRamYCounter s.cfg.payYctr) s) ∧
    (∀ buf, l = .w4 → op = .update buf ∨ op = .updateAndDisplay buf → step s = exec (.writeRam buf) s) ∧
    (l = .a0 → step s = exec (.displayUpdateControl2 [s.cfg.payDuc2Full]) s) ∧
    (l = .s1 → step s = exec (.displayUpdateControl2 [s.cfg.payDuc2Sleep]) s) ∧
    (l = .a1 ∨ l = .s2 → step s = exec .masterActivation s) ∧
    (l = .s3 → step s = exec (.deepSleepMode (s.cfg.paySleep s.sleepDepth)) s) ∧
    (∀ p, l = .p1 → op = .setRefreshProfile p → step s = exec (.writeLutRegister (s.cfg.lut p)) s)

/-! ### The framer primitives -/

/-- `Reset` at step I0, whatever level the line had and with no look at the busy line: with no fault four
events in their order, the line ends high, the shadow forgets everything, the sequencer moves to I1. A
fault at the falling edge leaves the line as it was; at the rising edge the line is left low and the shadow
has forgotten everything; the two delays cannot fault (R121, R226, R38; `Faulted` at every edge is the
spec's D15, which edges fault its D16, the shadow its D23; that FAULT names the edge is log 10). -/
def Obligations.ResetPulse : Prop :=
  ∀ (s : State) (op : Op), s.seqPos = .running op 0 → (stepsOf op)[0]? = some .i0 →
    (s.env.Quiet 2 → step s = .next { s with
      rst := .high
      seqPos := .running op 1
      ctl := Ctl.allUnknown
      env := s.env.after 2 0
      trace := s.trace ++ [.rst .low, .delay s.cfg.resetLow, .rst .high, .delay s.cfg.resetSettle] }) ∧
    (s.env.faultAt 0 = true → ∃ d, step s = .next { s with
      st := .faulted
      dc := d
      seqPos := .ready
      env := s.env.after 1 0
      trace := s.trace ++ [.fault (.rst .low)]
      results := s.results ++ [.transportFault] }) ∧
    (s.env.faultAt 0 = false → s.env.faultAt 1 = true → ∃ d, step s = .next { s with
      st := .faulted
      dc := d
      rst := .low
      seqPos := .ready
      ctl := Ctl.allUnknown
      env := s.env.after 2 0
      trace := s.trace ++ [.rst .low, .delay s.cfg.resetLow, .fault (.rst .high)]
      results := s.results ++ [.transportFault] })

/-- `WaitIdle` that reads busy `n` times and then idle: `n` samples each followed by the poll delay, one
idle sample, then the sequencer advances (R124; that a sample comes first is the spec's D8). -/
def Obligations.WaitIdleReturnsAtFirstIdle : Prop :=
  ∀ (s : State) (op : Op) (k n : Nat) (l : StepLabel),
    s.seqPos = .running op k → (stepsOf op)[k]? = some l → l ∈ [.i1, .i3, .i13, .a2, .s0] →
    s.env.Quiet (n + 1) → s.env.Reads (waits n) →
    run (n + 1) s = .next (advance { s with
      env := s.env.after (n + 1) (n + 1)
      trace := s.trace ++ s.cfg.poll n })

/-- The hang (R224, D26): as long as the line reads busy, for any number of samples, the engine stays at
the same step with the same `ST`, has delivered no result and has only polled. -/
def Obligations.BusyLineHangs : Prop :=
  ∀ (s : State) (op : Op) (k n : Nat) (l : StepLabel),
    s.seqPos = .running op k → (stepsOf op)[k]? = some l → l ∈ [.i1, .i3, .i13, .a2, .s0] →
    s.env.Quiet n → s.env.Reads (List.replicate n .low) →
    run n s = .next { s with
      env := s.env.after n n
      trace := s.trace ++ (List.replicate n [Event.busy .low, Event.delay s.cfg.pollDelay]).flatten }

/-- The steps at which a request waits are the ones of R180, and no others. -/
def Obligations.WaitStepsAreTheTable : Prop :=
  ∀ (s : State) (op : Op) (k : Nat) (l : StepLabel),
    s.seqPos = .running op k → (stepsOf op)[k]? = some l →
    (fetch s = .wait ↔ l ∈ [.i1, .i3, .i13, .a2, .s0])

/-! ### Controller commands -/

/-- SW_RESET and MASTER_ACTIVATION complete: one command phase, no data phase, the shadow entry is the
empty payload; SW_RESET makes the shadow forget everything else (R122, R141, R154). Any other command with
no bytes, which the engine never sends, means the same (the spec's D11). -/
def Obligations.BareCommandsComplete : Prop :=
  ∀ s : State, s.env.faultAt 0 = false →
    (∃ d, exec .swReset s = .next (advance { s with
      dc := d
      ctl := Ctl.allUnknown.put .swReset (.sent [])
      env := s.env.after 1 0
      trace := s.trace ++ [.cmd s.cfg.opc.swReset] })) ∧
    (∃ d, exec .masterActivation s = .next (advance { s with
      dc := d
      ctl := s.ctl.put .masterActivation (.sent [])
      env := s.env.after 1 0
      trace := s.trace ++ [.cmd s.cfg.opc.masterActivation] })) ∧
    (∀ c, ∃ d, exec (c.instr []) s = .next (advance { s with
      dc := d
      ctl := s.ctl.sent s.cfg c []
      env := s.env.after 1 0
      trace := s.trace ++ [.cmd (s.cfg.opc.code c)] }))

/-- The twelve commands with a data phase other than DEEP_SLEEP_MODE complete:
DRIVER_OUTPUT_CONTROL, DATA_ENTRY_MODE, SET_RAM_X_WINDOW, SET_RAM_Y_WINDOW, BORDER_WAVEFORM_CONTROL,
DISPLAY_UPDATE_CONTROL_1, TEMP_SENSOR_CONTROL, SET_RAM_X_COUNTER, SET_RAM_Y_COUNTER, WRITE_RAM,
DISPLAY_UPDATE_CONTROL_2, WRITE_LUT_REGISTER: one command phase, the whole payload as one data phase, the
shadow records it (R123, R142 to R155). -/
def Obligations.DataCommandsComplete : Prop :=
  ∀ (s : State) (c : Command) (bs : List Byte), c.bare = false → c ≠ .deepSleepMode → bs ≠ [] →
    s.env.Quiet 2 →
    ∃ d, exec (c.instr bs) s = .next (advance { s with
      dc := d
      ctl := s.ctl.put c (.sent bs)
      env := s.env.after 2 0
      trace := s.trace ++ [.cmd (s.cfg.opc.code c), .data bs] })

/-- DEEP_SLEEP_MODE completes likewise; sent with the image of `NoRetain` it also makes the shadow forget
what was written to RAM (R156, and R38 (d), the spec's D23). -/
def Obligations.DeepSleepModeCompletes : Prop :=
  ∀ (s : State) (bs : List Byte), bs ≠ [] → s.env.Quiet 2 →
    ∃ d, exec (.deepSleepMode bs) s = .next (advance { s with
      dc := d
      ctl := if bs = s.cfg.paySleepNoRetain
        then (s.ctl.put .writeRam .unknown).put .deepSleepMode (.sent bs)
        else s.ctl.put .deepSleepMode (.sent bs)
      env := s.env.after 2 0
      trace := s.trace ++ [.cmd s.cfg.opc.deepSleepMode, .data bs] })

/-- The frame of every controller command, whether or not an action faults: no register but `ST`, `DC` and
`SEQ_POS` changes, no sample is taken, no request is consumed, the trace only grows, and every shadow
entry but the command's own is kept (SW_RESET forgets all, DEEP_SLEEP_MODE may forget WRITE_RAM). -/
def Obligations.CommandsLeaveUnchanged : Prop :=
  ∀ (s t : State) (c : Command) (bs : List Byte), exec (c.instr bs) s = .next t →
    t.cfg = s.cfg ∧ t.profile = s.profile ∧ t.bg = s.bg ∧ t.sleepDepth = s.sleepDepth ∧ t.rst = s.rst ∧
    t.script = s.script ∧ t.env.busy = s.env.busy ∧ t.env.samples = s.env.samples ∧
    (∃ new, t.trace = s.trace ++ new) ∧
    (∀ e, e ≠ c → c ≠ .swReset → ¬(c = .deepSleepMode ∧ e = .writeRam) → t.ctl.get e = s.ctl.get e)

/-! ### The transport fault (R222, R226, R227; `Faulted` is the spec's D15) -/

/-- A fault in the command phase of any command: `FAULT` stands in place of `CMD`, the shadow entry of the
command is unknown, and the entry of R226 is taken. -/
def Obligations.FaultInCommandPhase : Prop :=
  ∀ (s : State) (c : Command) (bs : List Byte), s.env.faultAt 0 = true →
    ∃ d, exec (c.instr bs) s = .next { s with
      st := .faulted
      dc := d
      seqPos := .ready
      ctl := s.ctl.put c .unknown
      env := s.env.after 1 0
      trace := s.trace ++ [.fault (.cmd (s.cfg.opc.code c))]
      results := s.results ++ [.transportFault] }

/-- A fault in the data phase: `CMD` then `FAULT`, nothing after it, the entry of R226; in particular
`PROFILE` keeps its value when the table of SET_REFRESH_PROFILE is cut. -/
def Obligations.FaultInDataPhase : Prop :=
  ∀ (s : State) (c : Command) (bs : List Byte), c.bare = false → bs ≠ [] →
    s.env.faultAt 0 = false → s.env.faultAt 1 = true →
    ∃ d, exec (c.instr bs) s = .next { s with
      st := .faulted
      dc := d
      seqPos := .ready
      ctl := s.ctl.put c .unknown
      env := s.env.after 2 0
      trace := s.trace ++ [.cmd (s.cfg.opc.code c), .fault .data]
      results := s.results ++ [.transportFault] }

/-- A fault in a sample ends the wait and the request (R124, R226). -/
def Obligations.FaultInSample : Prop :=
  ∀ (s : State) (op : Op) (k : Nat) (l : StepLabel),
    s.seqPos = .running op k → (stepsOf op)[k]? = some l → l ∈ [.i1, .i3, .i13, .a2, .s0] →
    s.env.faultAt 0 = true →
    ∃ d, step s = .next { s with
      st := .faulted
      dc := d
      seqPos := .ready
      env := s.env.after 1 0
      trace := s.trace ++ [.fault .busy]
      results := s.results ++ [.transportFault] }

/-! ### Host requests: acceptance and rejection -/

/-- CONSTRUCT, WAKE, UPDATE and UPDATE_AND_DISPLAY are accepted in every state between requests and stand
at step I0; CONSTRUCT has then loaded the three configuration registers (R173, R174, R183, R185; legal
everywhere is the spec's D14, D31). -/
def Obligations.InitRequestsStart : Prop :=
  ∀ s : State, s.seqPos = .ready → s.st.transient = false →
    exec .construct s = .next { s with
      st := .initializing
      profile := s.cfg.profileInit
      bg := s.cfg.bgInit
      sleepDepth := s.cfg.sleepDepthCfg
      seqPos := .running .construct 0 } ∧
    exec .wake s = .next { s with st := .initializing, seqPos := .running .wake 0 } ∧
    ∀ buf : List Byte, buf.length = 3813 →
      exec (.update buf) s = .next { s with st := .initializing, seqPos := .running (.update buf) 0 } ∧
      exec (.updateAndDisplay buf) s =
        .next { s with st := .initializing, seqPos := .running (.updateAndDisplay buf) 0 }

/-- DISPLAY, SLEEP and SET_REFRESH_PROFILE are accepted in `Idle` and stand at their first step (R184,
R186, R187; D14, D20, D30). -/
def Obligations.IdleRequestsStart : Prop :=
  ∀ s : State, s.seqPos = .ready → s.st = .idle →
    exec .display s = .next { s with st := .activating, seqPos := .running .display 0 } ∧
    exec .sleep s = .next { s with seqPos := .running .sleep 0 } ∧
    ∀ p, exec (.setRefreshProfile p) s = .next { s with seqPos := .running (.setRefreshProfile p) 0 }

/-- SET_BACKGROUND_COLOR: whatever the word's ignored bits, bit 4 is the colour; it is stored, nothing is
sent and nothing else changes; no later trace depends on it, and CONSTRUCT overwrites it (R188). -/
def Obligations.BackgroundColorStored : Prop :=
  ∀ (s : State) (w : Byte) (buf : List Byte) (color : Color), s.seqPos = .ready → s.st.transient = false →
    reqCode w = 7 → reqArg w = color.toBit →
    decodeRequest w buf = .setBackgroundColor color ∧
    ∃ t, exec (.setBackgroundColor color) s = .next t ∧
      t = { s with bg := color, results := s.results ++ [.ok] } ∧
      (∀ (other : Color) (n : Nat) (u : State), run n t = .next u →
        ∃ v, run n { t with bg := other } = .next v ∧ v.trace = u.trace ∧ v.results = u.results) ∧
      (∃ u, exec .construct t = .next u ∧ u.bg = s.cfg.bgInit)

/-- WIDTH answers 122 and HEIGHT 250, in every state between requests and whatever the word's ignored
bits, and change nothing (R189, R192). -/
def Obligations.GeometryAnswered : Prop :=
  ∀ (s : State) (w : Byte) (buf : List Byte), s.seqPos = .ready → s.st.transient = false →
    (reqCode w = 8 → decodeRequest w buf = .width ∧
      exec .width s = .next { s with results := s.results ++ [.okValue 122] }) ∧
    (reqCode w = 9 → decodeRequest w buf = .height ∧
      exec .height s = .next { s with results := s.results ++ [.okValue 250] })

/-- UPDATE_PARTIAL and CLEAR_FRAME are always rejected as unsupported, whatever buffer stands beside the
word, with nothing sent and nothing changed (R190, R191). -/
def Obligations.UnsupportedRejected : Prop :=
  ∀ (s : State) (w : Byte) (buf : List Byte), s.seqPos = .ready → s.st.transient = false →
    (reqCode w = 10 → decodeRequest w buf = .updatePartial ∧ exec .updatePartial s =
      .next { s with results := s.results ++ [.preconditionViolation .unsupported] }) ∧
    (reqCode w = 11 → decodeRequest w buf = .clearFrame ∧ exec .clearFrame s =
      .next { s with results := s.results ++ [.preconditionViolation .unsupported] })

/-- The reserved codes are always rejected (R193, the spec's D21). -/
def Obligations.ReservedRejected : Prop :=
  ∀ (s : State) (code : BitVec 2), s.seqPos = .ready → s.st.transient = false →
    exec (.reserved code) s =
      .next { s with results := s.results ++ [.preconditionViolation .reservedCode] }

/-- DISPLAY, SLEEP and SET_REFRESH_PROFILE are rejected in every state between requests but `Idle` (R172,
the spec's D14). -/
def Obligations.IllegalStateRejected : Prop :=
  ∀ s : State, s.seqPos = .ready → s.st.transient = false → s.st ≠ .idle →
    exec .display s = .next { s with results := s.results ++ [.preconditionViolation .illegalState] } ∧
    exec .sleep s = .next { s with results := s.results ++ [.preconditionViolation .illegalState] } ∧
    ∀ p, exec (.setRefreshProfile p) s =
      .next { s with results := s.results ++ [.preconditionViolation .illegalState] }

/-- A buffer of any length but 3813 is rejected before anything is sent (R63, R67). -/
def Obligations.WrongLengthRejected : Prop :=
  ∀ (s : State) (buf : List Byte), s.seqPos = .ready → s.st.transient = false → buf.length ≠ 3813 →
    exec (.update buf) s =
      .next { s with results := s.results ++ [.preconditionViolation .lengthMismatch] } ∧
    exec (.updateAndDisplay buf) s =
      .next { s with results := s.results ++ [.preconditionViolation .lengthMismatch] }

/-- Whatever request is rejected, for whatever reason, nothing but the delivered result changes, and a
rejection wins over any fault the environment would have chosen (R225, R228). -/
def Obligations.RejectionChangesNothing : Prop :=
  ∀ (s t : State) (i : Instr) (why : Why), i.command? = none → exec i s = .next t →
    t.results = s.results ++ [.preconditionViolation why] →
    t = { s with results := s.results ++ [.preconditionViolation why] }

/-- At most one of the four checks can fail for a request in a state (R171, R228). -/
def Obligations.AtMostOneCheckFails : Prop :=
  ∀ (i : Instr) (st : St),
    [isReserved i, isUnsupported i, legality i st == .no, badLength i].count true ≤ 1

/-- A request presented while another runs, or in a transient state, is given no meaning (R170, U14; R23):
the model refuses it by name (log 13). -/
def Obligations.RequestsOutOfTurnRefused : Prop :=
  ∀ (s : State) (i : Instr), i.command? = none →
    (∀ op k, s.seqPos = .running op k → exec i s = .refused .requestWhileRunning) ∧
    (s.seqPos = .ready → s.st.transient = true → exec i s = .refused .requestInTransientState)

/-- The frame of every request's presentation: no event, no pin, no shadow entry, no environment answer
and no other presented request is touched; `PROFILE` and `SLEEP_DEPTH` are written by CONSTRUCT only, `BG`
by CONSTRUCT and SET_BACKGROUND_COLOR only (R29). -/
def Obligations.RequestsLeaveUnchanged : Prop :=
  ∀ (s t : State) (i : Instr), i.command? = none → exec i s = .next t →
    t.cfg = s.cfg ∧ t.rst = s.rst ∧ t.dc = s.dc ∧ t.ctl = s.ctl ∧ t.trace = s.trace ∧ t.env = s.env ∧
    t.script = s.script ∧
    (i ≠ .construct → t.profile = s.profile ∧ t.sleepDepth = s.sleepDepth) ∧
    (i ≠ .construct → (∀ c, i ≠ .setBackgroundColor c) → t.bg = s.bg)

/-! ### Host requests: the whole of what they do

`n1`, `n3`, `n13`, `n` are the numbers of busy readings of the waits, any naturals. -/

/-- WAKE is `Init`: its events in their order, `Idle` at the end, the three configuration registers kept
(R174, R175). -/
def Obligations.WakeRunsInit : Prop :=
  ∀ (s : State) (n1 n3 n13 : Nat), s.cfg.Valid → s.seqPos = .ready → s.st.transient = false →
    s.env.Quiet (24 + (n1 + n3 + n13)) → s.env.Reads (waits n1 ++ waits n3 ++ waits n13) →
    ∃ d, performed .wake (14 + (n1 + n3 + n13)) s = .next { s with
      st := .idle
      rst := .high
      dc := d
      ctl := Ctl.afterInit s.cfg
      trace := s.trace ++ s.cfg.initTrace n1 n3 n13
      results := s.results ++ [.ok]
      env := s.env.after (24 + (n1 + n3 + n13)) (3 + (n1 + n3 + n13)) }

/-- CONSTRUCT has the very same events as WAKE and loads the three configuration registers (R173, R175). -/
def Obligations.ConstructRunsInit : Prop :=
  ∀ (s : State) (n1 n3 n13 : Nat), s.cfg.Valid → s.seqPos = .ready → s.st.transient = false →
    s.env.Quiet (24 + (n1 + n3 + n13)) → s.env.Reads (waits n1 ++ waits n3 ++ waits n13) →
    ∃ d, performed .construct (14 + (n1 + n3 + n13)) s = .next { s with
      st := .idle
      profile := s.cfg.profileInit
      bg := s.cfg.bgInit
      sleepDepth := s.cfg.sleepDepthCfg
      rst := .high
      dc := d
      ctl := Ctl.afterInit s.cfg
      trace := s.trace ++ s.cfg.initTrace n1 n3 n13
      results := s.results ++ [.ok]
      env := s.env.after (24 + (n1 + n3 + n13)) (3 + (n1 + n3 + n13)) }

/-- UPDATE re-runs `Init`, sends the window and the counters again and streams the buffer as one data
phase; the panel is not activated (R183). -/
def Obligations.UpdateWritesBuffer : Prop :=
  ∀ (s : State) (buf : List Byte) (n1 n3 n13 : Nat), s.cfg.Valid → buf.length = 3813 →
    s.seqPos = .ready → s.st.transient = false →
    s.env.Quiet (34 + (n1 + n3 + n13)) → s.env.Reads (waits n1 ++ waits n3 ++ waits n13) →
    ∃ d, performed (.update buf) (19 + (n1 + n3 + n13)) s = .next { s with
      st := .idle
      rst := .high
      dc := d
      ctl := (Ctl.afterInit s.cfg).afterWrite s.cfg buf
      trace := s.trace ++ s.cfg.initTrace n1 n3 n13 ++ s.cfg.writeTrace buf
      results := s.results ++ [.ok]
      env := s.env.after (34 + (n1 + n3 + n13)) (3 + (n1 + n3 + n13)) }

/-- DISPLAY stages the full sequence, activates and waits (R184). -/
def Obligations.DisplayActivates : Prop :=
  ∀ (s : State) (n : Nat), s.seqPos = .ready → s.st = .idle →
    s.env.Quiet (4 + n) → s.env.Reads (waits n) →
    ∃ d, performed .display (3 + n) s = .next { s with
      dc := d
      ctl := s.ctl.afterActivate s.cfg
      trace := s.trace ++ s.cfg.activateTrace n
      results := s.results ++ [.ok]
      env := s.env.after (4 + n) (1 + n) }

/-- UPDATE_AND_DISPLAY has the events of UPDATE followed by the events of DISPLAY, as one request with one
result (R104, R185). -/
def Obligations.UpdateAndDisplayDoesBoth : Prop :=
  ∀ (s : State) (buf : List Byte) (n1 n3 n13 n : Nat), s.cfg.Valid → buf.length = 3813 →
    s.seqPos = .ready → s.st.transient = false →
    s.env.Quiet (38 + (n1 + n3 + n13 + n)) →
    s.env.Reads (waits n1 ++ waits n3 ++ waits n13 ++ waits n) →
    ∃ d, performed (.updateAndDisplay buf) (22 + (n1 + n3 + n13 + n)) s = .next { s with
      st := .idle
      rst := .high
      dc := d
      ctl := ((Ctl.afterInit s.cfg).afterWrite s.cfg buf).afterActivate s.cfg
      trace := s.trace ++ s.cfg.initTrace n1 n3 n13 ++ s.cfg.writeTrace buf ++ s.cfg.activateTrace n
      results := s.results ++ [.ok]
      env := s.env.after (38 + (n1 + n3 + n13 + n)) (4 + (n1 + n3 + n13 + n)) }

/-- SLEEP waits, stages the teardown, activates, and sends the configured sleep depth as its last frame
(R186). -/
def Obligations.SleepEntersDeepSleep : Prop :=
  ∀ (s : State) (n : Nat), s.cfg.Valid → s.seqPos = .ready → s.st = .idle →
    s.env.Quiet (6 + n) → s.env.Reads (waits n) →
    ∃ d, performed .sleep (4 + n) s = .next { s with
      st := .sleeping
      dc := d
      ctl := s.ctl.sent s.cfg .displayUpdateControl2 [s.cfg.payDuc2Sleep]
        |>.sent s.cfg .masterActivation []
        |>.sent s.cfg .deepSleepMode (s.cfg.paySleep s.sleepDepth)
      trace := s.trace ++ s.cfg.sleepTrace s.sleepDepth n
      results := s.results ++ [.ok]
      env := s.env.after (6 + n) (1 + n) }

/-- SET_REFRESH_PROFILE with another profile sends exactly that waveform table and then updates `PROFILE`;
with the current profile it sends nothing (R187, R213). -/
def Obligations.RefreshProfileSwitched : Prop :=
  ∀ (s : State) (p : Profile), s.cfg.Valid → s.seqPos = .ready → s.st = .idle → s.env.Quiet 2 →
    (p ≠ s.profile → ∃ d, performed (.setRefreshProfile p) 3 s = .next { s with
      profile := p
      dc := d
      ctl := s.ctl.put .writeLutRegister (.sent (s.cfg.lut p))
      trace := s.trace ++ [.cmd s.cfg.opc.writeLutRegister, .data (s.cfg.lut p)]
      results := s.results ++ [.ok]
      env := s.env.after 2 0 }) ∧
    (p = s.profile → performed (.setRefreshProfile p) 1 s =
      .next { s with results := s.results ++ [.ok] })

/-- CONSTRUCT and WAKE perform the same at every step, whatever the environment answers (R104, S6). -/
def Obligations.ConstructStepsAreWakeSteps : Prop :=
  ∀ (s t : State) (k : Nat), s.seqPos = .running .wake k → step s = .next t →
    step (s.withOp .construct) = .next (t.withOp .construct)

/-- Up to step W3 UPDATE_AND_DISPLAY performs what UPDATE performs at every step, and at W4 it has sent
the same, whatever the environment answers: a fault ends it as it ends UPDATE (R185). -/
def Obligations.UpdateAndDisplayBeginsAsUpdate : Prop :=
  ∀ (s t : State) (buf : List Byte) (k : Nat), s.seqPos = .running (.update buf) k → step s = .next t →
    (k < 18 → step (s.withOp (.updateAndDisplay buf)) = .next (t.withOp (.updateAndDisplay buf))) ∧
    (k = 18 → ∃ u, step (s.withOp (.updateAndDisplay buf)) = .next u ∧ u.trace = t.trace ∧
      u.ctl = t.ctl ∧ (t.st = .faulted → u = t) ∧
      (t.st = .idle → u.st = .activating ∧ u.seqPos = .running (.updateAndDisplay buf) 19))

/-! ### Reset -/

/-- The engine after power-on, for every configuration (R42, R250; all but the first row of R42's table is
the spec's D17). The two pin levels are left out, as D6 and D17 ask. -/
def Obligations.ResetStateHolds : Prop :=
  ∀ c : Cfg,
    (State.resetWith c).st = .uninitialized ∧ (State.resetWith c).seqPos = .ready ∧
    (State.resetWith c).profile = c.profileInit ∧ (State.resetWith c).bg = c.bgInit ∧
    (State.resetWith c).sleepDepth = c.sleepDepthCfg ∧ (State.resetWith c).trace = [] ∧
    (∀ cmd, (State.resetWith c).ctl.get cmd = .unknown) ∧ (State.resetWith c).cfg = c

/-- The invariants below hold at reset, for every configuration. -/
def Obligations.InvariantsHoldAtReset : Prop :=
  ∀ c : Cfg, (State.resetWith c).inv = true ∧
    dataFollowsCmd false (State.resetWith c).trace = true ∧
    (State.resetWith c).ctl = shadowOf c (State.resetWith c).trace ∧ State.reset.inv = true

/-! ### Invariants and whole-machine rules -/

/-- Every state of the invariant of the sequencer has a step, never a stop of the model, and every step keeps
the invariant: no request meets a transient state (R23), a running request stands at a step of its list
with the `ST` of that step, a lent buffer has its length, and `SLEEP_DEPTH` is the configured one (R26). -/
def Obligations.StepKeepsInvariant : Prop :=
  ∀ s : State, s.inv = true → (∃ t, step s = .next t) ∧ ∀ t, step s = .next t → t.inv = true

/-- The steps of the engine are framer events (R5, the spec's D1). Every step of the event level performs
exactly one event, or none at Ready (a request is accepted or answered), at P0 and at P2. A numbered step is
one to four steps of the event level with a state between each two of them, and it stops where its first
event stops. -/
def Obligations.StepIsItsEvents : Prop :=
  (∀ m n : EventState, event m = .next n →
    (∃ e, n.state.trace = m.state.trace ++ [e]) ∨
    (n.state.trace = m.state.trace ∧ m.phase = .start ∧
      (m.state.seqPos = .ready ∨ m.state.seqPos.label? = some .p0 ∨ m.state.seqPos.label? = some .p2))) ∧
  (∀ s t : State, step s = .next t → ∃ k < 4, eventRun (k + 1) ⟨s, .start⟩ = .next ⟨t, .start⟩ ∧
    ∀ j < k, ∃ m, eventRun (j + 1) ⟨s, .start⟩ = .next m ∧ m.phase ≠ .start) ∧
  (∀ s : State, (∀ r, step s = .fault r ↔ event ⟨s, .start⟩ = .fault r) ∧
    (∀ r, step s = .refused r ↔ event ⟨s, .start⟩ = .refused r))

/-- Nothing the host requests and nothing the environment answers changes the configuration, the two
waveform tables among it: no instruction and no step does (R210; R39 and R77 say the same). -/
def Obligations.ConfigurationNeverChanges : Prop :=
  (∀ (s t : State) (i : Instr), exec i s = .next t → t.cfg = s.cfg) ∧
  (∀ s t : State, step s = .next t → t.cfg = s.cfg)

/-- The observable only grows: events and results are never withdrawn or reordered, and one step delivers
at most one result (R5, R73, R220). Each FAULT event is reported by exactly one `TransportFault`, and only
with one does the engine become `Faulted` (R222, R254; the spec's D15): a run that is over in `Faulted` has
FAULT in its trace. -/
def Obligations.ObservableOnlyGrows : Prop :=
  ∀ s t : State, step s = .next t →
    ∃ (new : List Event) (rs : List Result), t.trace = s.trace ++ new ∧ t.results = s.results ++ rs ∧
      rs.length ≤ 1 ∧ new.countP Event.isFault = rs.count .transportFault ∧
      (t.st = .faulted → s.st = .faulted ∨ rs = [.transportFault])

/-- Every change of `ST` in one step is a row of R178's table, or two rows through `Idle` where one step of
a request ends one sub-sequence and begins the next (the spec's D20). -/
def Obligations.StChangesAreTheTable : Prop :=
  ∀ s t : State, s.inv = true → step s = .next t →
    t.st = s.st ∨ stEdge s.st t.st = true ∨
    (s.st = .initializing ∧ t.st = .writing) ∨ (s.st = .writing ∧ t.st = .activating)

/-- `Sleeping` and `Faulted` are left only by a request that runs `Init`: until then no event is emitted and
the shadow stays (R229, R240, R263). -/
def Obligations.OnlyInitLeavesSleepingOrFaulted : Prop :=
  ∀ s t : State, s.inv = true → s.st = .sleeping ∨ s.st = .faulted → step s = .next t →
    t.trace = s.trace ∧ t.ctl = s.ctl ∧
    ((t.st = s.st ∧ t.seqPos = .ready) ∨
      (t.st = .initializing ∧ ∃ op, t.seqPos = .running op 0 ∧ (stepsOf op)[0]? = some .i0))

/-- `PROFILE` changes only in step P2 of SET_REFRESH_PROFILE or by CONSTRUCT, `BG` only by CONSTRUCT or
SET_BACKGROUND_COLOR, `SLEEP_DEPTH` only by CONSTRUCT (R24, R25, R29; for `SLEEP_DEPTH` the spec's D18). -/
def Obligations.ConfigurationRegisterWriters : Prop :=
  ∀ s t : State, step s = .next t →
    (t.profile ≠ s.profile →
      (∃ p, s.seqPos = .running (.setRefreshProfile p) 2 ∧ t.profile = p) ∨
      (∃ r rest, s.seqPos = .ready ∧ s.script = r :: rest ∧
        decodeRequest r.word r.buf = .construct ∧ t.profile = s.cfg.profileInit)) ∧
    (t.bg ≠ s.bg →
      ∃ r rest, s.seqPos = .ready ∧ s.script = r :: rest ∧
        ((decodeRequest r.word r.buf = .construct ∧ t.bg = s.cfg.bgInit) ∨
          ∃ c, decodeRequest r.word r.buf = .setBackgroundColor c ∧ t.bg = c)) ∧
    (t.sleepDepth ≠ s.sleepDepth →
      ∃ r rest, s.seqPos = .ready ∧ s.script = r :: rest ∧
        decodeRequest r.word r.buf = .construct ∧ t.sleepDepth = s.cfg.sleepDepthCfg)

/-- Every data phase directly follows its command phase, in every trace the engine makes (R91). -/
def Obligations.DataFollowsCommandKept : Prop :=
  ∀ s t : State, dataFollowsCmd false s.trace = true → step s = .next t →
    dataFollowsCmd false t.trace = true

/-- The shadow is a function of the trace alone, and every step keeps it so (R37, R38, the spec's D23). -/
def Obligations.ShadowFollowsTrace : Prop :=
  ∀ s t : State, s.cfg.opc.Injective → s.ctl = shadowOf s.cfg s.trace → step s = .next t →
    t.ctl = shadowOf t.cfg t.trace

/-- A waveform table is sent only by step P1 of SET_REFRESH_PROFILE and only when the requested profile
differs (R213), and it is sent unchanged as the one data phase of a WRITE_LUT_REGISTER frame, no byte
transformed, skipped, padded or repeated (R212); only a fault stands in its place. -/
def Obligations.TableSentOnlyOnProfileChange : Prop :=
  ∀ (s t : State) (new : List Event), s.inv = true → s.cfg.Valid → step s = .next t →
    t.trace = s.trace ++ new → .cmd s.cfg.opc.writeLutRegister ∈ new →
    ∃ p, s.seqPos = .running (.setRefreshProfile p) 1 ∧ p ≠ s.profile ∧
      (new = [.cmd s.cfg.opc.writeLutRegister, .data (s.cfg.lut p)] ∨
        new = [.cmd s.cfg.opc.writeLutRegister, .fault .data])

/-- Display RAM is written only by step W4, with the lent buffer unchanged, whole, of 3813 bytes, in one
data phase (R66, R67, R152); only a fault stands in its place. -/
def Obligations.RamWrittenOnlyWithWholeBuffer : Prop :=
  ∀ (s t : State) (new : List Event), s.inv = true → s.cfg.opc.Injective → step s = .next t →
    t.trace = s.trace ++ new → .cmd s.cfg.opc.writeRam ∈ new →
    ∃ buf, (s.seqPos = .running (.update buf) 18 ∨ s.seqPos = .running (.updateAndDisplay buf) 18) ∧
      buf.length = 3813 ∧
      ((new = [.cmd s.cfg.opc.writeRam, .data buf] ∧ t.ctl.get .writeRam = .sent buf) ∨
        (new = [.cmd s.cfg.opc.writeRam, .fault .data] ∧ t.ctl.get .writeRam = .unknown))

/-- Every MASTER_ACTIVATION is directly preceded by a DISPLAY_UPDATE_CONTROL_2 frame (R154): kept by every
step, with the trace at the activating steps ending in that frame. -/
def Obligations.ActivationsStagedKept : Prop :=
  ∀ s t : State, s.inv = true → s.cfg.opc.Injective →
    ActivationsStaged s.cfg.opc s.trace →
    (s.seqPos.label? = some .a1 ∨ s.seqPos.label? = some .s2 →
      ∃ front bs, s.trace = front ++ [.cmd s.cfg.opc.displayUpdateControl2, .data bs]) →
    step s = .next t →
    ActivationsStaged t.cfg.opc t.trace ∧
    (t.seqPos.label? = some .a1 ∨ t.seqPos.label? = some .s2 →
      ∃ front bs, t.trace = front ++ [.cmd t.cfg.opc.displayUpdateControl2, .data bs])

/-- The first command the controller is ever sent is SW_RESET, after a reset pulse that keeps both minimum
durations and after an idle reading (R175, R255, R257): kept by every step, with what holds while no
command has been sent. -/
def Obligations.FirstCommandResetKept : Prop :=
  let untouched (s : State) : Prop := noCommand s.trace = true →
    (s.seqPos = .ready → s.st = .uninitialized ∨ s.st = .faulted) ∧
    (∀ op k, s.seqPos = .running op k → (stepsOf op)[0]? = some .i0 ∧ k ≤ 2 ∧
      (k = 1 → PulsedThen (fun _ => True) s.trace) ∧
      (k = 2 → PulsedThen (fun rest => Event.busy .high ∈ rest) s.trace))
  ∀ s t : State, s.inv = true → s.cfg.Valid → FirstCommandReset s.cfg.opc s.trace → untouched s →
    step s = .next t → FirstCommandReset t.cfg.opc t.trace ∧ untouched t

/-- Nothing the host can observe depends on `BG` or on the shadow: two states that agree but for them
step to two states that agree but for them (R25, R37). -/
def Obligations.UnreadStateIsInvisible : Prop :=
  ∀ s t : State, SameButUnread s t → SameOutcomeButUnread (step s) (step t)

/-- Every request returns, whatever faults, if the environment's next answers hold an idle reading for
each of the at most four waits of a request (R224: the premise is about the environment, stated and not
built in); a request that was running has then delivered exactly one result (R220). -/
def Obligations.RequestReturnsUnderIdleReadings : Prop :=
  ∀ s : State, s.inv = true → 4 ≤ s.env.busy.count .high →
    ∃ n t, run n s = .next t ∧ t.seqPos = .ready ∧
      (s.seqPos ≠ .ready → ∃ r, t.results = s.results ++ [r])

/-! ### Constants and codes -/

/-- The arithmetic of the variant (R63): the products and differences, exact in the naturals, and the
comparison of a buffer's length with `FB_LEN` as an exact equality. -/
def Obligations.GeometryArithmetic : Prop :=
  panelWidth * panelHeight = 30500 ∧ fbLen = (30500 + 7) / 8 ∧ fbLen = 3813 ∧ gateCount = 249 ∧
  windowXEnd = 121 ∧ windowYEnd = 249 ∧
  ∀ buf : List Byte,
    (badLength (.update buf) = true ↔ buf.length ≠ 3813) ∧
    (badLength (.updateAndDisplay buf) = true ↔ buf.length ≠ 3813)

/-- The pixels of the host's buffer are packed row by row with no padding: every index below 30500 is that
of exactly one pixel, which lies in byte `index / 8` of the 3813 (R62, the spec's D13; host side only). -/
def Obligations.PixelsPackedWithoutPadding : Prop :=
  ∀ p < 30500, ∃ x y, x < 122 ∧ y < 250 ∧ pixelIndex x y = p ∧ pixelByte x y = p / 8 ∧ pixelByte x y < fbLen ∧
    ∀ x' y', x' < 122 → pixelIndex x' y' = p → x' = x ∧ y' = y

/-- The images of CFG_GK are the images of the logical values the rules name, in the layouts of
41_command_vocabulary.md (general knowledge: PRESUMED, log 1), and CFG_GK meets the constraints on CFG
whatever its waveform tables hold. -/
def Obligations.NamedConfigurationIsConsistent : Prop :=
  Cfg.gk.Valid ∧ Cfg.gk.payDoc = docImage gateCount Cfg.gk.scanFlags ∧
  Cfg.gk.payDem = demImage false true false ∧ Cfg.gk.payXwin = xwinImage 0 windowXEnd ∧
  Cfg.gk.payYwin = ywinImage 0 windowYEnd ∧ Cfg.gk.payXctr = xctrImage 0 ∧
  Cfg.gk.payYctr = yctrImage 0 ∧ Cfg.gk.payBorder = borderImage Cfg.gk.borderCfg ∧
  Cfg.gk.payDuc2Full = ActivationFlags.full.image ∧
  Cfg.gk.payDuc2Sleep = ActivationFlags.teardown.image ∧
  (∀ d, Cfg.gk.paySleep d = sleepImage d)
end

