-- ==== Sys2Proof/Laws/State.lean ====
section
/-! SUPPORT. One lemma per field per named update of the state, true by rfl. -/

namespace Sys2Proof.Machine

/-! ### emit -/

@[simp] theorem State.emit_cfg (e : Event) (s : State) :
    (s.emit e).cfg = s.cfg := rfl

@[simp] theorem State.emit_st (e : Event) (s : State) :
    (s.emit e).st = s.st := rfl

@[simp] theorem State.emit_profile (e : Event) (s : State) :
    (s.emit e).profile = s.profile := rfl

@[simp] theorem State.emit_bg (e : Event) (s : State) :
    (s.emit e).bg = s.bg := rfl

@[simp] theorem State.emit_sleepDepth (e : Event) (s : State) :
    (s.emit e).sleepDepth = s.sleepDepth := rfl

@[simp] theorem State.emit_rst (e : Event) (s : State) :
    (s.emit e).rst = s.rst := rfl

@[simp] theorem State.emit_dc (e : Event) (s : State) :
    (s.emit e).dc = s.dc := rfl

@[simp] theorem State.emit_seqPos (e : Event) (s : State) :
    (s.emit e).seqPos = s.seqPos := rfl

@[simp] theorem State.emit_ctl (e : Event) (s : State) :
    (s.emit e).ctl = s.ctl := rfl

@[simp] theorem State.emit_trace (e : Event) (s : State) :
    (s.emit e).trace = s.trace ++ [e] := rfl

@[simp] theorem State.emit_results (e : Event) (s : State) :
    (s.emit e).results = s.results := rfl

@[simp] theorem State.emit_env (e : Event) (s : State) :
    (s.emit e).env = s.env := rfl

@[simp] theorem State.emit_script (e : Event) (s : State) :
    (s.emit e).script = s.script := rfl

/-! ### answer -/

@[simp] theorem State.answer_cfg (r : Result) (s : State) :
    (s.answer r).cfg = s.cfg := rfl

@[simp] theorem State.answer_st (r : Result) (s : State) :
    (s.answer r).st = s.st := rfl

@[simp] theorem State.answer_profile (r : Result) (s : State) :
    (s.answer r).profile = s.profile := rfl

@[simp] theorem State.answer_bg (r : Result) (s : State) :
    (s.answer r).bg = s.bg := rfl

@[simp] theorem State.answer_sleepDepth (r : Result) (s : State) :
    (s.answer r).sleepDepth = s.sleepDepth := rfl

@[simp] theorem State.answer_rst (r : Result) (s : State) :
    (s.answer r).rst = s.rst := rfl

@[simp] theorem State.answer_dc (r : Result) (s : State) :
    (s.answer r).dc = s.dc := rfl

@[simp] theorem State.answer_seqPos (r : Result) (s : State) :
    (s.answer r).seqPos = s.seqPos := rfl

@[simp] theorem State.answer_ctl (r : Result) (s : State) :
    (s.answer r).ctl = s.ctl := rfl

@[simp] theorem State.answer_trace (r : Result) (s : State) :
    (s.answer r).trace = s.trace := rfl

@[simp] theorem State.answer_results (r : Result) (s : State) :
    (s.answer r).results = s.results ++ [r] := rfl

@[simp] theorem State.answer_env (r : Result) (s : State) :
    (s.answer r).env = s.env := rfl

@[simp] theorem State.answer_script (r : Result) (s : State) :
    (s.answer r).script = s.script := rfl

/-! ### ctlWrite -/

@[simp] theorem State.ctlWrite_cfg (c : Command) (bs : List Byte) (s : State) :
    (s.ctlWrite c bs).cfg = s.cfg := rfl

@[simp] theorem State.ctlWrite_st (c : Command) (bs : List Byte) (s : State) :
    (s.ctlWrite c bs).st = s.st := rfl

@[simp] theorem State.ctlWrite_profile (c : Command) (bs : List Byte) (s : State) :
    (s.ctlWrite c bs).profile = s.profile := rfl

@[simp] theorem State.ctlWrite_bg (c : Command) (bs : List Byte) (s : State) :
    (s.ctlWrite c bs).bg = s.bg := rfl

@[simp] theorem State.ctlWrite_sleepDepth (c : Command) (bs : List Byte) (s : State) :
    (s.ctlWrite c bs).sleepDepth = s.sleepDepth := rfl

@[simp] theorem State.ctlWrite_rst (c : Command) (bs : List Byte) (s : State) :
    (s.ctlWrite c bs).rst = s.rst := rfl

@[simp] theorem State.ctlWrite_dc (c : Command) (bs : List Byte) (s : State) :
    (s.ctlWrite c bs).dc = s.dc := rfl

@[simp] theorem State.ctlWrite_seqPos (c : Command) (bs : List Byte) (s : State) :
    (s.ctlWrite c bs).seqPos = s.seqPos := rfl

@[simp] theorem State.ctlWrite_ctl (c : Command) (bs : List Byte) (s : State) :
    (s.ctlWrite c bs).ctl = s.ctl.sent s.cfg c bs := rfl

@[simp] theorem State.ctlWrite_trace (c : Command) (bs : List Byte) (s : State) :
    (s.ctlWrite c bs).trace = s.trace := rfl

@[simp] theorem State.ctlWrite_results (c : Command) (bs : List Byte) (s : State) :
    (s.ctlWrite c bs).results = s.results := rfl

@[simp] theorem State.ctlWrite_env (c : Command) (bs : List Byte) (s : State) :
    (s.ctlWrite c bs).env = s.env := rfl

@[simp] theorem State.ctlWrite_script (c : Command) (bs : List Byte) (s : State) :
    (s.ctlWrite c bs).script = s.script := rfl

/-! ### ctlForget -/

@[simp] theorem State.ctlForget_cfg (c : Command) (s : State) :
    (s.ctlForget c).cfg = s.cfg := rfl

@[simp] theorem State.ctlForget_st (c : Command) (s : State) :
    (s.ctlForget c).st = s.st := rfl

@[simp] theorem State.ctlForget_profile (c : Command) (s : State) :
    (s.ctlForget c).profile = s.profile := rfl

@[simp] theorem State.ctlForget_bg (c : Command) (s : State) :
    (s.ctlForget c).bg = s.bg := rfl

@[simp] theorem State.ctlForget_sleepDepth (c : Command) (s : State) :
    (s.ctlForget c).sleepDepth = s.sleepDepth := rfl

@[simp] theorem State.ctlForget_rst (c : Command) (s : State) :
    (s.ctlForget c).rst = s.rst := rfl

@[simp] theorem State.ctlForget_dc (c : Command) (s : State) :
    (s.ctlForget c).dc = s.dc := rfl

@[simp] theorem State.ctlForget_seqPos (c : Command) (s : State) :
    (s.ctlForget c).seqPos = s.seqPos := rfl

@[simp] theorem State.ctlForget_ctl (c : Command) (s : State) :
    (s.ctlForget c).ctl = s.ctl.put c .unknown := rfl

@[simp] theorem State.ctlForget_trace (c : Command) (s : State) :
    (s.ctlForget c).trace = s.trace := rfl

@[simp] theorem State.ctlForget_results (c : Command) (s : State) :
    (s.ctlForget c).results = s.results := rfl

@[simp] theorem State.ctlForget_env (c : Command) (s : State) :
    (s.ctlForget c).env = s.env := rfl

@[simp] theorem State.ctlForget_script (c : Command) (s : State) :
    (s.ctlForget c).script = s.script := rfl

/-! ### reject -/

@[simp] theorem reject_cfg (why : Why) (s : State) :
    (reject why s).cfg = s.cfg := rfl

@[simp] theorem reject_st (why : Why) (s : State) :
    (reject why s).st = s.st := rfl

@[simp] theorem reject_profile (why : Why) (s : State) :
    (reject why s).profile = s.profile := rfl

@[simp] theorem reject_bg (why : Why) (s : State) :
    (reject why s).bg = s.bg := rfl

@[simp] theorem reject_sleepDepth (why : Why) (s : State) :
    (reject why s).sleepDepth = s.sleepDepth := rfl

@[simp] theorem reject_rst (why : Why) (s : State) :
    (reject why s).rst = s.rst := rfl

@[simp] theorem reject_dc (why : Why) (s : State) :
    (reject why s).dc = s.dc := rfl

@[simp] theorem reject_seqPos (why : Why) (s : State) :
    (reject why s).seqPos = s.seqPos := rfl

@[simp] theorem reject_ctl (why : Why) (s : State) :
    (reject why s).ctl = s.ctl := rfl

@[simp] theorem reject_trace (why : Why) (s : State) :
    (reject why s).trace = s.trace := rfl

@[simp] theorem reject_results (why : Why) (s : State) :
    (reject why s).results = s.results ++ [.preconditionViolation why] := rfl

@[simp] theorem reject_env (why : Why) (s : State) :
    (reject why s).env = s.env := rfl

@[simp] theorem reject_script (why : Why) (s : State) :
    (reject why s).script = s.script := rfl

/-! ### transportFault -/

@[simp] theorem transportFault_cfg (a : Action) (s : State) :
    (transportFault a s).cfg = s.cfg := rfl

@[simp] theorem transportFault_st (a : Action) (s : State) :
    (transportFault a s).st = .faulted := rfl

@[simp] theorem transportFault_profile (a : Action) (s : State) :
    (transportFault a s).profile = s.profile := rfl

@[simp] theorem transportFault_bg (a : Action) (s : State) :
    (transportFault a s).bg = s.bg := rfl

@[simp] theorem transportFault_sleepDepth (a : Action) (s : State) :
    (transportFault a s).sleepDepth = s.sleepDepth := rfl

@[simp] theorem transportFault_rst (a : Action) (s : State) :
    (transportFault a s).rst = s.rst := rfl

@[simp] theorem transportFault_dc (a : Action) (s : State) :
    (transportFault a s).dc = .high := rfl

@[simp] theorem transportFault_seqPos (a : Action) (s : State) :
    (transportFault a s).seqPos = .ready := rfl

@[simp] theorem transportFault_ctl (a : Action) (s : State) :
    (transportFault a s).ctl = s.ctl := rfl

@[simp] theorem transportFault_trace (a : Action) (s : State) :
    (transportFault a s).trace = s.trace ++ [.fault a] := rfl

@[simp] theorem transportFault_results (a : Action) (s : State) :
    (transportFault a s).results = s.results ++ [.transportFault] := rfl

@[simp] theorem transportFault_env (a : Action) (s : State) :
    (transportFault a s).env = s.env := rfl

@[simp] theorem transportFault_script (a : Action) (s : State) :
    (transportFault a s).script = s.script := rfl

/-! ### finish -/

@[simp] theorem finish_cfg (s : State) :
    (finish s).cfg = s.cfg := rfl

@[simp] theorem finish_st (s : State) :
    (finish s).st = s.st := rfl

@[simp] theorem finish_profile (s : State) :
    (finish s).profile = s.profile := rfl

@[simp] theorem finish_bg (s : State) :
    (finish s).bg = s.bg := rfl

@[simp] theorem finish_sleepDepth (s : State) :
    (finish s).sleepDepth = s.sleepDepth := rfl

@[simp] theorem finish_rst (s : State) :
    (finish s).rst = s.rst := rfl

@[simp] theorem finish_dc (s : State) :
    (finish s).dc = s.dc := rfl

@[simp] theorem finish_seqPos (s : State) :
    (finish s).seqPos = .ready := rfl

@[simp] theorem finish_ctl (s : State) :
    (finish s).ctl = s.ctl := rfl

@[simp] theorem finish_trace (s : State) :
    (finish s).trace = s.trace := rfl

@[simp] theorem finish_results (s : State) :
    (finish s).results = s.results ++ [.ok] := rfl

@[simp] theorem finish_env (s : State) :
    (finish s).env = s.env := rfl

@[simp] theorem finish_script (s : State) :
    (finish s).script = s.script := rfl

/-! ### commandPhase -/

@[simp] theorem commandPhase_cfg (c : Command) (s : State) :
    (commandPhase c s).cfg = s.cfg := rfl

@[simp] theorem commandPhase_st (c : Command) (s : State) :
    (commandPhase c s).st = s.st := rfl

@[simp] theorem commandPhase_profile (c : Command) (s : State) :
    (commandPhase c s).profile = s.profile := rfl

@[simp] theorem commandPhase_bg (c : Command) (s : State) :
    (commandPhase c s).bg = s.bg := rfl

@[simp] theorem commandPhase_sleepDepth (c : Command) (s : State) :
    (commandPhase c s).sleepDepth = s.sleepDepth := rfl

@[simp] theorem commandPhase_rst (c : Command) (s : State) :
    (commandPhase c s).rst = s.rst := rfl

@[simp] theorem commandPhase_dc (c : Command) (s : State) :
    (commandPhase c s).dc = .high := rfl

@[simp] theorem commandPhase_seqPos (c : Command) (s : State) :
    (commandPhase c s).seqPos = s.seqPos := rfl

@[simp] theorem commandPhase_ctl (c : Command) (s : State) :
    (commandPhase c s).ctl = s.ctl := rfl

@[simp] theorem commandPhase_trace (c : Command) (s : State) :
    (commandPhase c s).trace = s.trace ++ [.cmd (s.cfg.opc.code c)] := rfl

@[simp] theorem commandPhase_results (c : Command) (s : State) :
    (commandPhase c s).results = s.results := rfl

@[simp] theorem commandPhase_env (c : Command) (s : State) :
    (commandPhase c s).env = s.env := rfl

@[simp] theorem commandPhase_script (c : Command) (s : State) :
    (commandPhase c s).script = s.script := rfl

/-! ### lowEdge -/

@[simp] theorem lowEdge_cfg (s : State) :
    (lowEdge s).cfg = s.cfg := rfl

@[simp] theorem lowEdge_st (s : State) :
    (lowEdge s).st = s.st := rfl

@[simp] theorem lowEdge_profile (s : State) :
    (lowEdge s).profile = s.profile := rfl

@[simp] theorem lowEdge_bg (s : State) :
    (lowEdge s).bg = s.bg := rfl

@[simp] theorem lowEdge_sleepDepth (s : State) :
    (lowEdge s).sleepDepth = s.sleepDepth := rfl

@[simp] theorem lowEdge_rst (s : State) :
    (lowEdge s).rst = .low := rfl

@[simp] theorem lowEdge_dc (s : State) :
    (lowEdge s).dc = s.dc := rfl

@[simp] theorem lowEdge_seqPos (s : State) :
    (lowEdge s).seqPos = s.seqPos := rfl

@[simp] theorem lowEdge_ctl (s : State) :
    (lowEdge s).ctl = Ctl.allUnknown := rfl

@[simp] theorem lowEdge_trace (s : State) :
    (lowEdge s).trace = s.trace ++ [.rst .low] := rfl

@[simp] theorem lowEdge_results (s : State) :
    (lowEdge s).results = s.results := rfl

@[simp] theorem lowEdge_env (s : State) :
    (lowEdge s).env = s.env := rfl

@[simp] theorem lowEdge_script (s : State) :
    (lowEdge s).script = s.script := rfl

/-! ### highEdge -/

@[simp] theorem highEdge_cfg (s : State) :
    (highEdge s).cfg = s.cfg := rfl

@[simp] theorem highEdge_st (s : State) :
    (highEdge s).st = s.st := rfl

@[simp] theorem highEdge_profile (s : State) :
    (highEdge s).profile = s.profile := rfl

@[simp] theorem highEdge_bg (s : State) :
    (highEdge s).bg = s.bg := rfl

@[simp] theorem highEdge_sleepDepth (s : State) :
    (highEdge s).sleepDepth = s.sleepDepth := rfl

@[simp] theorem highEdge_rst (s : State) :
    (highEdge s).rst = .high := rfl

@[simp] theorem highEdge_dc (s : State) :
    (highEdge s).dc = s.dc := rfl

@[simp] theorem highEdge_seqPos (s : State) :
    (highEdge s).seqPos = s.seqPos := rfl

@[simp] theorem highEdge_ctl (s : State) :
    (highEdge s).ctl = s.ctl := rfl

@[simp] theorem highEdge_trace (s : State) :
    (highEdge s).trace = s.trace ++ [.rst .high] := rfl

@[simp] theorem highEdge_results (s : State) :
    (highEdge s).results = s.results := rfl

@[simp] theorem highEdge_env (s : State) :
    (highEdge s).env = s.env := rfl

@[simp] theorem highEdge_script (s : State) :
    (highEdge s).script = s.script := rfl

/-! ### sample -/

@[simp] theorem sample_cfg (s : State) :
    (sample s).cfg = s.cfg := rfl

@[simp] theorem sample_st (s : State) :
    (sample s).st = s.st := rfl

@[simp] theorem sample_profile (s : State) :
    (sample s).profile = s.profile := rfl

@[simp] theorem sample_bg (s : State) :
    (sample s).bg = s.bg := rfl

@[simp] theorem sample_sleepDepth (s : State) :
    (sample s).sleepDepth = s.sleepDepth := rfl

@[simp] theorem sample_rst (s : State) :
    (sample s).rst = s.rst := rfl

@[simp] theorem sample_dc (s : State) :
    (sample s).dc = s.dc := rfl

@[simp] theorem sample_seqPos (s : State) :
    (sample s).seqPos = s.seqPos := rfl

@[simp] theorem sample_ctl (s : State) :
    (sample s).ctl = s.ctl := rfl

@[simp] theorem sample_trace (s : State) :
    (sample s).trace = s.trace ++ [.busy (s.env.busyAt 0)] := rfl

@[simp] theorem sample_results (s : State) :
    (sample s).results = s.results := rfl

@[simp] theorem sample_env (s : State) :
    (sample s).env = s.env.after 0 1 := rfl

@[simp] theorem sample_script (s : State) :
    (sample s).script = s.script := rfl

/-! ### dataPhase -/

@[simp] theorem dataPhase_cfg (c : Command) (bs : List Byte) (s : State) :
    (dataPhase c bs s).cfg = s.cfg := rfl

@[simp] theorem dataPhase_st (c : Command) (bs : List Byte) (s : State) :
    (dataPhase c bs s).st = s.st := rfl

@[simp] theorem dataPhase_profile (c : Command) (bs : List Byte) (s : State) :
    (dataPhase c bs s).profile = s.profile := rfl

@[simp] theorem dataPhase_bg (c : Command) (bs : List Byte) (s : State) :
    (dataPhase c bs s).bg = s.bg := rfl

@[simp] theorem dataPhase_sleepDepth (c : Command) (bs : List Byte) (s : State) :
    (dataPhase c bs s).sleepDepth = s.sleepDepth := rfl

@[simp] theorem dataPhase_rst (c : Command) (bs : List Byte) (s : State) :
    (dataPhase c bs s).rst = s.rst := rfl

@[simp] theorem dataPhase_dc (c : Command) (bs : List Byte) (s : State) :
    (dataPhase c bs s).dc = s.dc := rfl

@[simp] theorem dataPhase_seqPos (c : Command) (bs : List Byte) (s : State) :
    (dataPhase c bs s).seqPos = s.seqPos := rfl

@[simp] theorem dataPhase_ctl (c : Command) (bs : List Byte) (s : State) :
    (dataPhase c bs s).ctl = s.ctl.sent s.cfg c bs := rfl

@[simp] theorem dataPhase_trace (c : Command) (bs : List Byte) (s : State) :
    (dataPhase c bs s).trace = s.trace ++ [.data bs] := rfl

@[simp] theorem dataPhase_results (c : Command) (bs : List Byte) (s : State) :
    (dataPhase c bs s).results = s.results := rfl

@[simp] theorem dataPhase_env (c : Command) (bs : List Byte) (s : State) :
    (dataPhase c bs s).env = s.env := rfl

@[simp] theorem dataPhase_script (c : Command) (bs : List Byte) (s : State) :
    (dataPhase c bs s).script = s.script := rfl

end Sys2Proof.Machine
end

