-- ==== Sys2Proof/Laws/Ops.lean ====
section
/-! SUPPORT. What each shared operation can do, said once. -/

namespace Sys2Proof.Machine

/-! ### The environment -/

@[simp] theorem Env.faultAt_after (e : Env) (f b n : Nat) :
    (e.after f b).faultAt n = e.faultAt (f + n) := by
  simp [Env.faultAt, Env.after, Nat.add_assoc]

@[simp] theorem Env.busyAt_after (e : Env) (f b n : Nat) :
    (e.after f b).busyAt n = e.busyAt (b + n) := by
  simp [Env.busyAt, Env.after, Nat.add_assoc]

@[simp] theorem Env.after_after (e : Env) (f b f' b' : Nat) :
    (e.after f b).after f' b' = e.after (f + f') (b + b') := by
  simp [Env.after, Nat.add_assoc]

@[simp] theorem Env.after_zero (e : Env) : e.after 0 0 = e := rfl

/-! ### The shadow -/

theorem Command.index_injective {c d : Command} (h : c.index = d.index) : c = d := by
  cases c <;> cases d <;> first | rfl | exact absurd h (by decide)

theorem Ctl.get_put_same (t : Ctl) (c : Command) (e : ShadowEntry) : (t.put c e).get c = e := by
  simp [Ctl.get, Ctl.put]

theorem Ctl.get_put_other (t : Ctl) {c d : Command} (e : ShadowEntry) (h : c ≠ d) :
    (t.put c e).get d = t.get d := by
  have : c.index.val ≠ d.index.val := fun h' => h (Command.index_injective (Fin.ext h'))
  simp [Ctl.get, Ctl.put, this]

@[simp] theorem Ctl.get_allUnknown (c : Command) : Ctl.allUnknown.get c = .unknown := by
  simp [Ctl.get, Ctl.allUnknown]

theorem Ctl.get_sent_same (cfg : Cfg) (c : Command) (bs : List Byte) (t : Ctl) :
    (t.sent cfg c bs).get c = .sent bs := by
  simp [Ctl.sent, Ctl.get_put_same]

/-- A command other than SW_RESET leaves every other entry, but for WRITE_RAM when RAM is given up. -/
theorem Ctl.get_sent_other (cfg : Cfg) {c d : Command} (bs : List Byte) (t : Ctl) (h : c ≠ d)
    (hr : c ≠ .swReset) (hs : ¬(c = .deepSleepMode ∧ bs = cfg.paySleepNoRetain ∧ d = .writeRam)) :
    (t.sent cfg c bs).get d = t.get d := by
  unfold Ctl.sent
  rw [if_neg hr, Ctl.get_put_other _ _ h]
  split
  · exact Ctl.get_put_other _ _ (fun hd => hs ⟨by simp_all, by simp_all, hd.symm⟩)
  · rfl

/-! ### Opcode bytes (R97, R98) -/

theorem Command.mem_all (c : Command) : c ∈ Command.all := by cases c <;> decide

theorem OpcMap.code_injective {o : OpcMap} (h : o.Injective) {c d : Command} (e : o.code c = o.code d) :
    c = d :=
  List.inj_on_of_nodup_map h (Command.mem_all c) (Command.mem_all d) e

/-- A command's opcode byte decodes to it. -/
theorem decodeCommandByte_code {o : OpcMap} (h : o.Injective) (c : Command) :
    decodeCommandByte o (o.code c) = some c := by
  unfold decodeCommandByte
  cases hf : Command.all.find? (fun d => o.code d == o.code c) with
  | none => simpa using List.find?_eq_none.mp hf c (Command.mem_all c)
  | some d =>
    have hd : o.code d = o.code c := by simpa using List.find?_some hf
    rw [OpcMap.code_injective h hd]

/-! ### Actions -/

theorem attempt_quiet {a : Action} {lost ok : State → State} {s : State} (h : s.env.faultAt 0 = false) :
    attempt a lost ok s = ok { s with env := s.env.after 1 0 } := by
  simp [attempt, h]

theorem attempt_fault {a : Action} {lost ok : State → State} {s : State} (h : s.env.faultAt 0 = true) :
    attempt a lost ok s = transportFault a (lost { s with env := s.env.after 1 0 }) := by
  simp [attempt, h]

/-! ### The end of a step -/

/-- Everything `advance` can do. -/
theorem advance_cases (s : State) :
    (s.seqPos = .ready ∧ advance s = s) ∨
    (∃ op k l, s.seqPos = .running op k ∧ (stepsOf op)[k + 1]? = some l ∧
      advance s = { s with
        seqPos := .running op (k + 1),
        st := stEntering l (stDone op k s.st) }) ∨
    (∃ op k, s.seqPos = .running op k ∧ (stepsOf op)[k + 1]? = none ∧
      advance s = finish { s with st := stDone op k s.st }) := by
  unfold advance
  cases h : s.seqPos with
  | ready => simp
  | running op k =>
    cases h' : (stepsOf op)[k + 1]? with
    | none => exact .inr (.inr ⟨op, k, rfl, h', by simp [h']⟩)
    | some l => exact .inr (.inl ⟨op, k, l, rfl, h', by simp [h']⟩)

theorem advance_running {s : State} {op : Op} {k : Nat} {l l' : StepLabel} (h : s.seqPos = .running op k)
    (hl : (stepsOf op)[k]? = some l) (hl' : (stepsOf op)[k + 1]? = some l') :
    advance s = { s with st := stEntering l' (stLeaving l s.st), seqPos := .running op (k + 1) } := by
  simp [advance, stDone, h, hl, hl']

theorem advance_last {s : State} {op : Op} {k : Nat} {l : StepLabel} (h : s.seqPos = .running op k)
    (hl : (stepsOf op)[k]? = some l) (hl' : (stepsOf op)[k + 1]? = none) :
    advance s = finish { s with st := stLeaving l s.st } := by
  simp [advance, stDone, h, hl, hl']

theorem advance_ready {s : State} (h : s.seqPos = .ready) : advance s = s := by
  simp [advance, h]

/-- `advance` writes `ST`, `SEQ_POS` and the results, nothing else. -/
theorem advance_frame (s : State) :
    advance s = { s with st := (advance s).st, seqPos := (advance s).seqPos, results := (advance s).results } := by
  rcases advance_cases s with ⟨_, h⟩ | ⟨_, _, _, _, _, h⟩ | ⟨_, _, _, _, h⟩ <;> (rw [h]; try rfl)

@[simp] theorem advance_cfg (s : State) : (advance s).cfg = s.cfg := by rw [advance_frame]
@[simp] theorem advance_profile (s : State) : (advance s).profile = s.profile := by rw [advance_frame]
@[simp] theorem advance_bg (s : State) : (advance s).bg = s.bg := by rw [advance_frame]
@[simp] theorem advance_sleepDepth (s : State) : (advance s).sleepDepth = s.sleepDepth := by rw [advance_frame]
@[simp] theorem advance_rst (s : State) : (advance s).rst = s.rst := by rw [advance_frame]
@[simp] theorem advance_dc (s : State) : (advance s).dc = s.dc := by rw [advance_frame]
@[simp] theorem advance_ctl (s : State) : (advance s).ctl = s.ctl := by rw [advance_frame]
@[simp] theorem advance_trace (s : State) : (advance s).trace = s.trace := by rw [advance_frame]
@[simp] theorem advance_env (s : State) : (advance s).env = s.env := by rw [advance_frame]
@[simp] theorem advance_script (s : State) : (advance s).script = s.script := by rw [advance_frame]

/-! ### The framer primitives -/

/-- Everything `SendCommand` can do (R122). -/
theorem sendCommand_cases (c : Command) (s : State) :
    (s.env.faultAt 0 = false ∧
      sendCommand c s = advance ((commandPhase c { s with env := s.env.after 1 0 }).ctlWrite c [])) ∨
    (s.env.faultAt 0 = true ∧
      sendCommand c s = transportFault (.cmd (s.cfg.opc.code c))
        (State.ctlForget c { s with env := s.env.after 1 0 })) := by
  cases h : s.env.faultAt 0 with
  | false => exact .inl ⟨rfl, attempt_quiet h⟩
  | true => exact .inr ⟨rfl, attempt_fault h⟩

/-- Everything `SendCommandWithData` can do with a payload (R123). -/
theorem sendCommandWithData_cases (c : Command) {bs : List Byte} (hb : bs ≠ []) (s : State) :
    (s.env.faultAt 0 = false ∧ s.env.faultAt 1 = false ∧
      sendCommandWithData c bs s =
        advance (dataPhase c bs (commandPhase c { s with env := s.env.after 2 0 }))) ∨
    (s.env.faultAt 0 = true ∧
      sendCommandWithData c bs s = transportFault (.cmd (s.cfg.opc.code c))
        (State.ctlForget c { s with env := s.env.after 1 0 })) ∨
    (s.env.faultAt 0 = false ∧ s.env.faultAt 1 = true ∧
      sendCommandWithData c bs s = transportFault .data
        (State.ctlForget c (commandPhase c { s with env := s.env.after 2 0 }))) := by
  have hb' : bs.isEmpty = false := by cases bs <;> simp_all
  unfold sendCommandWithData
  rw [hb', if_neg (by simp)]
  cases h0 : s.env.faultAt 0 with
  | true => exact .inr (.inl ⟨rfl, attempt_fault h0⟩)
  | false =>
    rw [attempt_quiet h0]
    have hq : (commandPhase c { s with env := s.env.after 1 0 }).env.faultAt 0 = s.env.faultAt 1 := by simp
    cases h1 : s.env.faultAt 1 with
    | false => exact .inl ⟨rfl, rfl, by rw [attempt_quiet (hq.trans h1)]; simp [commandPhase, State.emit]⟩
    | true => exact .inr (.inr ⟨rfl, rfl, by rw [attempt_fault (hq.trans h1)]; simp [commandPhase, State.emit]⟩)

/-- With no payload it is `SendCommand` (D11). -/
@[simp] theorem sendCommandWithData_nil (c : Command) (s : State) :
    sendCommandWithData c [] s = sendCommand c s := rfl

/-- Everything `Reset` can do (R121). -/
theorem resetPulse_cases (low settle : Nat) (s : State) :
    (s.env.faultAt 0 = false ∧ s.env.faultAt 1 = false ∧
      resetPulse low settle s = advance { s with
        rst := .high, ctl := Ctl.allUnknown, env := s.env.after 2 0,
        trace := s.trace ++ [.rst .low, .delay low, .rst .high, .delay settle] }) ∨
    (s.env.faultAt 0 = true ∧
      resetPulse low settle s = transportFault (.rst .low) { s with env := s.env.after 1 0 }) ∨
    (s.env.faultAt 0 = false ∧ s.env.faultAt 1 = true ∧
      resetPulse low settle s = transportFault (.rst .high) { s with
        rst := .low, ctl := Ctl.allUnknown, env := s.env.after 2 0,
        trace := s.trace ++ [.rst .low, .delay low] }) := by
  unfold resetPulse
  cases h0 : s.env.faultAt 0 with
  | true => exact .inr (.inl ⟨rfl, attempt_fault h0⟩)
  | false =>
    rw [attempt_quiet h0]
    cases h1 : s.env.faultAt 1 with
    | false => exact .inl ⟨rfl, rfl, by rw [attempt_quiet (by simp [h1])]; simp [lowEdge, highEdge, State.emit]⟩
    | true => exact .inr (.inr ⟨rfl, rfl, by rw [attempt_fault (by simp [h1])]; simp [lowEdge, State.emit]⟩)

/-- Everything one round of `WaitIdle` can do (R124). -/
theorem waitIdle_cases (s : State) :
    (s.env.faultAt 0 = false ∧ s.env.busyAt 0 = .high ∧
      waitIdle s = advance ({ s with env := s.env.after 1 1 }.emit (.busy .high))) ∨
    (s.env.faultAt 0 = false ∧ s.env.busyAt 0 = .low ∧
      waitIdle s = { s with
        env := s.env.after 1 1,
        trace := s.trace ++ [.busy .low, .delay s.cfg.pollDelay] }) ∨
    (s.env.faultAt 0 = true ∧
      waitIdle s = transportFault .busy { s with env := s.env.after 1 0 }) := by
  unfold waitIdle
  cases h0 : s.env.faultAt 0 with
  | true => exact .inr (.inr ⟨rfl, attempt_fault h0⟩)
  | false =>
    rw [attempt_quiet h0]
    cases h1 : s.env.busyAt 0 with
    | high => exact .inl ⟨rfl, rfl, by simp [h1, idleLevel, sample, State.emit]⟩
    | low => exact .inr (.inl ⟨rfl, rfl, by simp [h1, idleLevel, sample, State.emit]⟩)

/-! ### Requests -/

/-- Everything presenting a request can do (R170, R171, R23). -/
theorem request_cases (i : Instr) (body : State → State) (s : State) :
    (∃ op k, s.seqPos = .running op k ∧ request i body s = .refused .requestWhileRunning) ∨
    (s.seqPos = .ready ∧ s.st.transient = true ∧ request i body s = .refused .requestInTransientState) ∨
    (s.seqPos = .ready ∧ s.st.transient = false ∧ ∃ why, precheck i s.st = some why ∧
      request i body s = .next (reject why s)) ∨
    (s.seqPos = .ready ∧ s.st.transient = false ∧ precheck i s.st = none ∧
      request i body s = .next (body s)) := by
  unfold request
  cases hp : s.seqPos with
  | running op k => exact .inl ⟨op, k, rfl, by simp⟩
  | ready =>
    cases ht : s.st.transient with
    | true => exact .inr (.inl ⟨rfl, rfl, by simp⟩)
    | false =>
      cases hc : precheck i s.st with
      | some why => exact .inr (.inr (.inl ⟨rfl, rfl, why, rfl, by simp⟩))
      | none => exact .inr (.inr (.inr ⟨rfl, rfl, rfl, by simp⟩))

theorem request_accepted {i : Instr} {body : State → State} {s : State} (hp : s.seqPos = .ready)
    (ht : s.st.transient = false) (hc : precheck i s.st = none) : request i body s = .next (body s) := by
  simp [request, hp, ht, hc]

theorem request_rejected {i : Instr} {body : State → State} {s : State} {why : Why}
    (hp : s.seqPos = .ready) (ht : s.st.transient = false) (hc : precheck i s.st = some why) :
    request i body s = .next (reject why s) := by
  simp [request, hp, ht, hc]

/-- `start` writes `ST` and `SEQ_POS`, nothing else: no step list is empty. -/
theorem start_frame (op : Op) (s : State) :
    start op s = { s with st := (start op s).st, seqPos := (start op s).seqPos } := by
  unfold start
  cases op <;> simp [stepsOf, initSteps, activateSteps, sleepSteps, profileSteps]

@[simp] theorem start_cfg (op : Op) (s : State) : (start op s).cfg = s.cfg := by rw [start_frame]
@[simp] theorem start_trace (op : Op) (s : State) : (start op s).trace = s.trace := by rw [start_frame]
@[simp] theorem start_results (op : Op) (s : State) : (start op s).results = s.results := by rw [start_frame]
@[simp] theorem start_ctl (op : Op) (s : State) : (start op s).ctl = s.ctl := by rw [start_frame]
@[simp] theorem start_env (op : Op) (s : State) : (start op s).env = s.env := by rw [start_frame]

/-- The meaning of a command is its transmission by the framer. -/
theorem exec_command (c : Command) (bs : List Byte) (s : State) :
    exec (c.instr bs) s = .next (sendCommandWithData c (if c.bare then [] else bs) s) := by
  cases c <;> rfl

theorem exec_construct (s : State) : exec .construct s = request .construct (fun s => start .construct
    { s with profile := s.cfg.profileInit, bg := s.cfg.bgInit, sleepDepth := s.cfg.sleepDepthCfg }) s := rfl

theorem exec_wake (s : State) : exec .wake s = request .wake (start .wake) s := rfl

theorem exec_sleep (s : State) : exec .sleep s = request .sleep (start .sleep) s := rfl

theorem exec_update (buf : List Byte) (s : State) :
    exec (.update buf) s = request (.update buf) (start (.update buf)) s := rfl

theorem exec_display (s : State) : exec .display s = request .display (start .display) s := rfl

theorem exec_updateAndDisplay (buf : List Byte) (s : State) :
    exec (.updateAndDisplay buf) s = request (.updateAndDisplay buf) (start (.updateAndDisplay buf)) s := rfl

theorem exec_setRefreshProfile (p : Profile) (s : State) :
    exec (.setRefreshProfile p) s = request (.setRefreshProfile p) (start (.setRefreshProfile p)) s := rfl

theorem exec_setBackgroundColor (c : Color) (s : State) :
    exec (.setBackgroundColor c) s =
      request (.setBackgroundColor c) (fun s => { s with bg := c }.answer .ok) s := rfl

theorem exec_width (s : State) : exec .width s = request .width (State.answer (.okValue 122)) s := rfl

theorem exec_height (s : State) : exec .height s = request .height (State.answer (.okValue 250)) s := rfl

theorem exec_updatePartial (s : State) : exec .updatePartial s = request .updatePartial id s := rfl

theorem exec_clearFrame (s : State) : exec .clearFrame s = request .clearFrame id s := rfl

theorem exec_reserved (code : BitVec 2) (s : State) :
    exec (.reserved code) s = request (.reserved code) id s := rfl

/-- Every instruction is a command or a host request. -/
theorem exec_request {i : Instr} (h : i.command? = none) (s : State) :
    ∃ body, exec i s = request i body s := by
  cases i <;> simp only [Instr.command?, reduceCtorEq] at h <;>
    simp only [exec, execConstruct, execWake, execSleep, execUpdate, execDisplay, execUpdateAndDisplay,
      execSetRefreshProfile, execSetBackgroundColor, execWidth, execHeight, execUpdatePartial,
      execClearFrame, execReserved] <;>
    exact ⟨_, rfl⟩

theorem Instr.eq_command {i : Instr} {c : Command} {bs : List Byte} (h : i.command? = some (c, bs)) :
    i = c.instr bs := by
  cases i <;> simp [Instr.command?] at h <;> obtain ⟨rfl, rfl⟩ := h <;> rfl

/-- The meaning of an instruction that is a command. -/
theorem exec_of_command {i : Instr} {c : Command} {bs : List Byte} (h : i.command? = some (c, bs))
    (s : State) : exec i s = .next (sendCommandWithData c bs s) := by
  cases i <;> simp only [Instr.command?, Option.some.injEq, Prod.mk.injEq, reduceCtorEq] at h
  all_goals (obtain ⟨rfl, rfl⟩ := h; rfl)

/-- What the decoder reads from a request word is no command. -/
@[simp] theorem decodeRequest_command (w : Byte) (buf : List Byte) : (decodeRequest w buf).command? = none := by
  unfold decodeRequest
  split <;> rfl

/-- Presenting a request emits nothing and writes no shadow entry. -/
theorem exec_request_silent {s t : State} {i : Instr} (hi : i.command? = none) (h : exec i s = .next t) :
    t.cfg = s.cfg ∧ t.trace = s.trace ∧ t.ctl = s.ctl := by
  cases i <;> simp only [Instr.command?, reduceCtorEq] at hi
  all_goals simp only [exec, execConstruct, execWake, execSleep, execUpdate, execDisplay,
    execUpdateAndDisplay, execSetRefreshProfile, execSetBackgroundColor, execWidth, execHeight,
    execUpdatePartial, execClearFrame, execReserved] at h
  all_goals
    rcases request_cases _ _ s with ⟨_, _, _, h'⟩ | ⟨_, _, h'⟩ | ⟨_, _, w, _, h'⟩ | ⟨_, _, _, h'⟩
  all_goals (rw [h'] at h; first | (injection h with h; subst h) | cases h)
  all_goals simp [reject, State.answer]

end Sys2Proof.Machine
end

