-- ==== Sys2Proof/Laws/Events.lean ====
section
/-! SUPPORT. What one step of the event level can do, said once, and how runs of it compose. -/

namespace Sys2Proof.Machine

theorem attemptEvent_quiet {a : Action} {lost ok : State → State} {p : Phase} {s : State}
    (h : s.env.faultAt 0 = false) :
    attemptEvent a lost ok p s = ⟨ok { s with env := s.env.after 1 0 }, p⟩ := by
  simp [attemptEvent, attempt_quiet h, h]

theorem attemptEvent_fault {a : Action} {lost ok : State → State} {p : Phase} {s : State}
    (h : s.env.faultAt 0 = true) :
    attemptEvent a lost ok p s = ⟨transportFault a (lost { s with env := s.env.after 1 0 }), .start⟩ := by
  simp [attemptEvent, attempt_fault h, h]

/-- Everything the event `CMD` of a frame with a payload can do (R123). -/
theorem commandEvent_cases (c : Command) {bs : List Byte} (hb : bs ≠ []) (s : State) :
    (s.env.faultAt 0 = false ∧
      commandEvent c bs s = ⟨commandPhase c { s with env := s.env.after 1 0 }, .data c bs⟩) ∨
    (s.env.faultAt 0 = true ∧
      commandEvent c bs s = ⟨transportFault (.cmd (s.cfg.opc.code c))
        (State.ctlForget c { s with env := s.env.after 1 0 }), .start⟩) := by
  have hb' : bs.isEmpty = false := by cases bs <;> simp_all
  unfold commandEvent
  rw [hb', if_neg (by simp)]
  cases h : s.env.faultAt 0 with
  | false => exact .inl ⟨rfl, attemptEvent_quiet h⟩
  | true => exact .inr ⟨rfl, attemptEvent_fault h⟩

/-- With no payload the event `CMD` is the whole of `SendCommand` (R122, D11). -/
theorem commandEvent_nil (c : Command) (s : State) : commandEvent c [] s = ⟨sendCommand c s, .start⟩ := by
  simp [commandEvent, attemptEvent, sendCommand]

/-- Everything the event `BUSY?` can do (R124). -/
theorem sampleEvent_cases (s : State) :
    (s.env.faultAt 0 = false ∧ s.env.busyAt 0 = .high ∧
      sampleEvent s = ⟨advance (sample { s with env := s.env.after 1 0 }), .start⟩) ∨
    (s.env.faultAt 0 = false ∧ s.env.busyAt 0 = .low ∧
      sampleEvent s = ⟨sample { s with env := s.env.after 1 0 }, .poll⟩) ∨
    (s.env.faultAt 0 = true ∧
      sampleEvent s = ⟨transportFault .busy { s with env := s.env.after 1 0 }, .start⟩) := by
  unfold sampleEvent
  cases h0 : s.env.faultAt 0 with
  | true => exact .inr (.inr ⟨rfl, attemptEvent_fault h0⟩)
  | false =>
    rw [attemptEvent_quiet h0]
    cases h1 : s.env.busyAt 0 with
    | high => exact .inl ⟨rfl, rfl, by simp [h1, idleLevel]⟩
    | low => exact .inr (.inl ⟨rfl, rfl, by simp [h1, idleLevel]⟩)

theorem eventRun_succ {m n : EventState} (k : Nat) (h : event m = .next n) :
    eventRun (k + 1) m = eventRun k n := by
  simp only [eventRun, h]

theorem eventRun_one {m n : EventState} (h : event m = .next n) : eventRun 1 m = .next n :=
  eventRun_succ 0 h

end Sys2Proof.Machine
end

