-- ==== Sys2Proof/Laws/PerInstr.lean ====
section
/-! SUPPORT. Per-instruction family TableRow: the encoded word of each instruction matches its row of spec/opcode_table.json. -/

namespace Sys2Proof.Laws.TableRow

/-- The mask and the match of an instruction's row (30_encoding.md R97 with CFG_GK, R99). -/
def row : Instr → Byte × Byte
  | .swReset => (0xFF, 0x12)
  | .driverOutputControl _ => (0xFF, 0x01)
  | .dataEntryMode _ => (0xFF, 0x11)
  | .setRamXWindow _ => (0xFF, 0x44)
  | .setRamYWindow _ => (0xFF, 0x45)
  | .borderWaveformControl _ => (0xFF, 0x3C)
  | .displayUpdateControl1 _ => (0xFF, 0x21)
  | .tempSensorControl _ => (0xFF, 0x18)
  | .setRamXCounter _ => (0xFF, 0x4E)
  | .setRamYCounter _ => (0xFF, 0x4F)
  | .writeRam _ => (0xFF, 0x24)
  | .displayUpdateControl2 _ => (0xFF, 0x22)
  | .masterActivation => (0xFF, 0x20)
  | .writeLutRegister _ => (0xFF, 0x32)
  | .deepSleepMode _ => (0xFF, 0x10)
  | .construct => (0x0F, 0x00)
  | .wake => (0x0F, 0x01)
  | .sleep => (0x0F, 0x02)
  | .update _ => (0x0F, 0x03)
  | .display => (0x0F, 0x04)
  | .updateAndDisplay _ => (0x0F, 0x05)
  | .setRefreshProfile _ => (0x0F, 0x06)
  | .setBackgroundColor _ => (0x0F, 0x07)
  | .width => (0x0F, 0x08)
  | .height => (0x0F, 0x09)
  | .updatePartial => (0x0F, 0x0A)
  | .clearFrame => (0x0F, 0x0B)
  | .reserved _ => (0x0C, 0x0C)

/-- The byte that selects an instruction: the request word, or the opcode byte of its frame. -/
def firstByte : Words → Byte
  | .request word _ => word
  | .frame opcode _ => opcode

/-- The first byte of the encoding agrees with the row wherever the row's mask is set. -/
def Statement (i : Instr) : Prop := firstByte (encode opcGk i) &&& (row i).1 = (row i).2

/-- The opcode byte of a command is its row's match: the mask is 0xFF. -/
theorem command_row (c : Command) (payload : List Byte) : Statement (c.instr payload) := by
  cases c <;> exact BitVec.and_allOnes

theorem swReset : Statement .swReset := rfl

theorem driverOutputControl (payload : List Byte) : Statement (.driverOutputControl payload) := command_row .driverOutputControl payload

theorem dataEntryMode (payload : List Byte) : Statement (.dataEntryMode payload) := command_row .dataEntryMode payload

theorem setRamXWindow (payload : List Byte) : Statement (.setRamXWindow payload) := command_row .setRamXWindow payload

theorem setRamYWindow (payload : List Byte) : Statement (.setRamYWindow payload) := command_row .setRamYWindow payload

theorem borderWaveformControl (payload : List Byte) : Statement (.borderWaveformControl payload) := command_row .borderWaveformControl payload

theorem displayUpdateControl1 (payload : List Byte) : Statement (.displayUpdateControl1 payload) := command_row .displayUpdateControl1 payload

theorem tempSensorControl (payload : List Byte) : Statement (.tempSensorControl payload) := command_row .tempSensorControl payload

theorem setRamXCounter (payload : List Byte) : Statement (.setRamXCounter payload) := command_row .setRamXCounter payload

theorem setRamYCounter (payload : List Byte) : Statement (.setRamYCounter payload) := command_row .setRamYCounter payload

theorem writeRam (payload : List Byte) : Statement (.writeRam payload) := command_row .writeRam payload

theorem displayUpdateControl2 (payload : List Byte) : Statement (.displayUpdateControl2 payload) := command_row .displayUpdateControl2 payload

theorem masterActivation : Statement .masterActivation := rfl

theorem writeLutRegister (payload : List Byte) : Statement (.writeLutRegister payload) := command_row .writeLutRegister payload

theorem deepSleepMode (payload : List Byte) : Statement (.deepSleepMode payload) := command_row .deepSleepMode payload

theorem construct : Statement .construct := rfl

theorem wake : Statement .wake := rfl

theorem sleep : Statement .sleep := rfl

theorem update (buf : List Byte) : Statement (.update buf) := (rfl : requestWord 3 0 &&& 0x0F = 0x03)

theorem display : Statement .display := rfl

theorem updateAndDisplay (buf : List Byte) : Statement (.updateAndDisplay buf) :=
  (rfl : requestWord 5 0 &&& 0x0F = 0x05)

theorem setRefreshProfile (profile : Profile) : Statement (.setRefreshProfile profile) := by cases profile <;> rfl

theorem setBackgroundColor (color : Color) : Statement (.setBackgroundColor color) := by cases color <;> rfl

theorem width : Statement .width := rfl

theorem height : Statement .height := rfl

theorem updatePartial : Statement .updatePartial := rfl

theorem clearFrame : Statement .clearFrame := rfl

theorem reserved (code : BitVec 2) : Statement (.reserved code) := by revert code; unfold Statement; decide

end Sys2Proof.Laws.TableRow
end

