-- ==== Sys2Proof/Laws/Step.lean ====
section
/-! SUPPORT. What one step can do, said once, and how runs compose. -/

namespace Sys2Proof.Machine

/-! ### Command steps -/

/-- The command a numbered step sends and its bytes; none for the steps that send no command. -/
def commandOf (s : State) (op : Op) : StepLabel → Option (Command × List Byte)
  | .i2 => some (.swReset, [])
  | .i4 => some (.driverOutputControl, s.cfg.payDoc)
  | .i5 => some (.dataEntryMode, s.cfg.payDem)
  | .i6 => some (.setRamXWindow, s.cfg.payXwin)
  | .i7 => some (.setRamYWindow, s.cfg.payYwin)
  | .i8 => some (.borderWaveformControl, [s.cfg.payBorder])
  | .i9 => some (.displayUpdateControl1, s.cfg.payDuc1)
  | .i10 => some (.tempSensorControl, s.cfg.payTemp)
  | .i11 => some (.setRamXCounter, s.cfg.payXctr)
  | .i12 => some (.setRamYCounter, s.cfg.payYctr)
  | .w0 => some (.setRamXWindow, s.cfg.payXwin)
  | .w1 => some (.setRamYWindow, s.cfg.payYwin)
  | .w2 => some (.setRamXCounter, s.cfg.payXctr)
  | .w3 => some (.setRamYCounter, s.cfg.payYctr)
  | .w4 => op.buf?.map (fun buf => (.writeRam, buf))
  | .a0 => some (.displayUpdateControl2, [s.cfg.payDuc2Full])
  | .a1 => some (.masterActivation, [])
  | .s1 => some (.displayUpdateControl2, [s.cfg.payDuc2Sleep])
  | .s2 => some (.masterActivation, [])
  | .s3 => some (.deepSleepMode, s.cfg.paySleep s.sleepDepth)
  | .p1 => op.profile?.map (fun p => (.writeLutRegister, s.cfg.lut p))
  | .i0 | .i1 | .i3 | .i13 | .a2 | .s0 | .p0 | .p2 => none

/-- The labels of the five kinds of wait (R180). -/
abbrev waitLabels : List StepLabel := [.i1, .i3, .i13, .a2, .s0]

/-- The step lists hold W4 only for a request with a buffer. -/
theorem buf_of_w4 {op : Op} {k : Nat} (h : (stepsOf op)[k]? = some .w4) :
    ∃ buf, op.buf? = some buf ∧ k = 18 ∧ (op = .update buf ∨ op = .updateAndDisplay buf) := by
  have hk : k < (stepsOf op).length := (List.getElem?_eq_some_iff.mp h).1
  cases op <;> simp only [stepsOf, initSteps, writeSteps, activateSteps, sleepSteps, profileSteps,
    List.cons_append, List.nil_append, List.length_cons, List.length_nil] at h hk <;>
    interval_cases k <;> simp_all [Op.buf?]

/-- The step lists hold the profile steps only for SET_REFRESH_PROFILE, each at its own index. -/
theorem profile_of_p {op : Op} {k : Nat} {l : StepLabel} (h : (stepsOf op)[k]? = some l)
    (hl : l = .p0 ∨ l = .p1 ∨ l = .p2) :
    ∃ p, op = .setRefreshProfile p ∧
      ((l = .p0 ∧ k = 0) ∨ (l = .p1 ∧ k = 1) ∨ (l = .p2 ∧ k = 2)) := by
  have hk : k < (stepsOf op).length := (List.getElem?_eq_some_iff.mp h).1
  rcases hl with rfl | rfl | rfl <;> cases op <;> simp only [stepsOf, initSteps, writeSteps, activateSteps, sleepSteps, profileSteps,
    List.cons_append, List.nil_append, List.length_cons, List.length_nil] at h hk <;>
    interval_cases k <;> simp_all

/-- I0 is the first step of every list that holds it. -/
theorem index_of_i0 {op : Op} {k : Nat} (h : (stepsOf op)[k]? = some .i0) : k = 0 := by
  have hk : k < (stepsOf op).length := (List.getElem?_eq_some_iff.mp h).1
  cases op <;> simp only [stepsOf, initSteps, writeSteps, activateSteps, sleepSteps, profileSteps,
    List.cons_append, List.nil_append, List.length_cons, List.length_nil] at h hk <;>
    interval_cases k <;> simp_all

/-! ### One step -/

theorem step_ready_nil {s : State} (hp : s.seqPos = .ready) (hs : s.script = []) : step s = .next s := by
  simp [step, fetch, hp, hs]

theorem step_ready_cons {s : State} {r : HostReq} {rest : List HostReq} (hp : s.seqPos = .ready)
    (hs : s.script = r :: rest) :
    step s = exec (decodeRequest r.word r.buf) { s with script := rest } := by
  simp [step, fetch, hp, hs]

theorem step_at {s : State} {op : Op} {k : Nat} {l : StepLabel} (hp : s.seqPos = .running op k)
    (hl : (stepsOf op)[k]? = some l) : fetch s = performs s op l := by
  simp [fetch, hp, hl]

theorem step_reset {s : State} {op : Op} {k : Nat} (hp : s.seqPos = .running op k)
    (hl : (stepsOf op)[k]? = some .i0) :
    step s = .next (resetPulse s.cfg.resetLow s.cfg.resetSettle s) := by
  simp [step, step_at hp hl, performs]

theorem step_wait {s : State} {op : Op} {k : Nat} {l : StepLabel} (hp : s.seqPos = .running op k)
    (hl : (stepsOf op)[k]? = some l) (hw : l ∈ waitLabels) : step s = .next (waitIdle s) := by
  unfold step
  rw [step_at hp hl]
  simp only [List.mem_cons, List.not_mem_nil, or_false] at hw
  rcases hw with rfl | rfl | rfl | rfl | rfl <;> rfl

/-- A step that sends a command is its transmission by the framer. -/
theorem step_command {s : State} {op : Op} {k : Nat} {l : StepLabel} {c : Command} {bs : List Byte}
    (hp : s.seqPos = .running op k) (hl : (stepsOf op)[k]? = some l)
    (hc : commandOf s op l = some (c, bs)) : step s = .next (sendCommandWithData c bs s) := by
  unfold step
  rw [step_at hp hl]
  cases l <;> simp only [commandOf, Option.some.injEq, Prod.mk.injEq, reduceCtorEq,
    Option.map_eq_some_iff] at hc
  case w4 => obtain ⟨buf, hb, rfl, rfl⟩ := hc; simp [performs, hb, exec, execWriteRam]
  case p1 => obtain ⟨p, hb, rfl, rfl⟩ := hc; simp [performs, hb, exec, execWriteLutRegister]
  all_goals obtain ⟨rfl, rfl⟩ := hc; rfl

theorem step_compare {s : State} {p : Profile} (hp : s.seqPos = .running (.setRefreshProfile p) 0) :
    step s = .next (compareProfile p s) := by
  simp [step, fetch, hp, stepsOf, profileSteps, performs, Op.profile?]

theorem step_load {s : State} {p : Profile} (hp : s.seqPos = .running (.setRefreshProfile p) 2) :
    step s = .next (loadProfile p s) := by
  simp [step, fetch, hp, stepsOf, profileSteps, performs, Op.profile?]

/-- Everything a step that answers a next state can have done. -/
theorem step_cases {s t : State} (h : step s = .next t) :
    (s.seqPos = .ready ∧ s.script = [] ∧ t = s) ∨
    (∃ r rest, s.seqPos = .ready ∧ s.script = r :: rest ∧
      exec (decodeRequest r.word r.buf) { s with script := rest } = .next t) ∨
    (∃ op, s.seqPos = .running op 0 ∧ (stepsOf op)[0]? = some .i0 ∧
      t = resetPulse s.cfg.resetLow s.cfg.resetSettle s) ∨
    (∃ op k l, s.seqPos = .running op k ∧ (stepsOf op)[k]? = some l ∧ l ∈ waitLabels ∧ t = waitIdle s) ∨
    (∃ op k l c bs, s.seqPos = .running op k ∧ (stepsOf op)[k]? = some l ∧
      commandOf s op l = some (c, bs) ∧ t = sendCommandWithData c bs s) ∨
    (∃ p, s.seqPos = .running (.setRefreshProfile p) 0 ∧ t = compareProfile p s) ∨
    (∃ p, s.seqPos = .running (.setRefreshProfile p) 2 ∧ t = loadProfile p s) := by
  cases hp : s.seqPos with
  | ready =>
    cases hs : s.script with
    | nil =>
      rw [step_ready_nil hp hs] at h
      cases h
      exact .inl ⟨rfl, rfl, rfl⟩
    | cons r rest =>
      rw [step_ready_cons hp hs] at h
      exact .inr (.inl ⟨r, rest, rfl, rfl, hp ▸ h⟩)
  | running op k =>
    cases hl : (stepsOf op)[k]? with
    | none => simp [step, fetch, hp, hl] at h
    | some l =>
      refine .inr (.inr ?_)
      cases hc : commandOf s op l with
      | some cb =>
        obtain ⟨c, bs⟩ := cb
        rw [step_command hp hl hc] at h
        cases h
        exact .inr (.inr (.inl ⟨op, k, l, c, bs, rfl, hl, hc, rfl⟩))
      | none =>
        by_cases hw : l ∈ waitLabels
        · rw [step_wait hp hl hw] at h
          cases h
          exact .inr (.inl ⟨op, k, l, rfl, hl, hw, rfl⟩)
        · cases l <;> simp [commandOf] at hc hw
          case i0 =>
            obtain rfl := index_of_i0 hl
            rw [step_reset hp hl] at h
            cases h
            exact .inl ⟨op, rfl, hl, rfl⟩
          case w4 => obtain ⟨buf, hb, -⟩ := buf_of_w4 hl; simp [hb] at hc
          case p0 =>
            obtain ⟨p, rfl, h0⟩ := profile_of_p hl (.inl rfl)
            obtain rfl : k = 0 := by simpa using h0
            rw [step_compare hp] at h
            cases h
            exact .inr (.inr (.inr (.inl ⟨p, rfl, rfl⟩)))
          case p1 => obtain ⟨p, rfl, -⟩ := profile_of_p hl (.inr (.inl rfl)); simp [Op.profile?] at hc
          case p2 =>
            obtain ⟨p, rfl, h0⟩ := profile_of_p hl (.inr (.inr rfl))
            obtain rfl : k = 2 := by simpa using h0
            rw [step_load hp] at h
            cases h
            exact .inr (.inr (.inr (.inr ⟨p, rfl, rfl⟩)))

/-- What a step appends to the trace and does to the shadow, by what it performed. -/
inductive StepEffect (s t : State) : Prop
  | silent : t.trace = s.trace → t.ctl = s.ctl → StepEffect s t
  | pulse : t.trace = s.trace ++ [.rst .low, .delay s.cfg.resetLow, .rst .high, .delay s.cfg.resetSettle] →
      t.ctl = Ctl.allUnknown → StepEffect s t
  | pulseFaultLow : t.trace = s.trace ++ [.fault (.rst .low)] → t.ctl = s.ctl → StepEffect s t
  | pulseFaultHigh : t.trace = s.trace ++ [.rst .low, .delay s.cfg.resetLow, .fault (.rst .high)] →
      t.ctl = Ctl.allUnknown → StepEffect s t
  | idle : t.trace = s.trace ++ [.busy .high] → t.ctl = s.ctl → StepEffect s t
  | busy : t.trace = s.trace ++ [.busy .low, .delay s.cfg.pollDelay] → t.ctl = s.ctl → StepEffect s t
  | sampleFault : t.trace = s.trace ++ [.fault .busy] → t.ctl = s.ctl → StepEffect s t
  | command (op : Op) (k : Nat) (l : StepLabel) (c : Command) : s.seqPos = .running op k →
      (stepsOf op)[k]? = some l → commandOf s op l = some (c, []) →
      t.trace = s.trace ++ [.cmd (s.cfg.opc.code c)] → t.ctl = s.ctl.sent s.cfg c [] → StepEffect s t
  | commandData (op : Op) (k : Nat) (l : StepLabel) (c : Command) (bs : List Byte) :
      s.seqPos = .running op k → (stepsOf op)[k]? = some l → commandOf s op l = some (c, bs) → bs ≠ [] →
      t.trace = s.trace ++ [.cmd (s.cfg.opc.code c), .data bs] → t.ctl = s.ctl.sent s.cfg c bs →
      StepEffect s t
  | commandFault (op : Op) (k : Nat) (l : StepLabel) (c : Command) (bs : List Byte) :
      s.seqPos = .running op k → (stepsOf op)[k]? = some l → commandOf s op l = some (c, bs) →
      t.trace = s.trace ++ [.fault (.cmd (s.cfg.opc.code c))] → t.ctl = s.ctl.put c .unknown →
      StepEffect s t
  | dataFault (op : Op) (k : Nat) (l : StepLabel) (c : Command) (bs : List Byte) :
      s.seqPos = .running op k → (stepsOf op)[k]? = some l → commandOf s op l = some (c, bs) → bs ≠ [] →
      t.trace = s.trace ++ [.cmd (s.cfg.opc.code c), .fault .data] → t.ctl = s.ctl.put c .unknown →
      StepEffect s t

/-- Every step has one of these effects. -/
theorem step_effect {s t : State} (h : step s = .next t) : StepEffect s t := by
  rcases step_cases h with ⟨_, _, rfl⟩ | ⟨r, rest, hp, _, hx⟩ | ⟨op, hp, hl, rfl⟩ | ⟨op, k, l, hp, hl, hw, rfl⟩ |
    ⟨op, k, l, c, bs, hp, hl, hc, rfl⟩ | ⟨p, hp, rfl⟩ | ⟨p, hp, rfl⟩
  · exact .silent rfl rfl
  · obtain ⟨_, htr, hct⟩ := exec_request_silent (decodeRequest_command _ _) hx
    exact .silent htr hct
  · rcases resetPulse_cases s.cfg.resetLow s.cfg.resetSettle s with ⟨_, _, h⟩ | ⟨_, h⟩ | ⟨_, _, h⟩ <;> rw [h]
    · exact .pulse (by simp) (by simp)
    · exact .pulseFaultLow rfl rfl
    · exact .pulseFaultHigh (by simp [transportFault, State.emit, State.answer]) rfl
  · rcases waitIdle_cases s with ⟨_, _, h⟩ | ⟨_, _, h⟩ | ⟨_, h⟩ <;> rw [h]
    · exact .idle (by simp) (by simp)
    · exact .busy rfl rfl
    · exact .sampleFault rfl rfl
  · by_cases hb : bs = []
    · subst hb
      rw [sendCommandWithData_nil]
      rcases sendCommand_cases c s with ⟨_, h⟩ | ⟨_, h⟩ <;> rw [h]
      · exact .command op k l c hp hl hc (by simp) (by simp)
      · exact .commandFault op k l c [] hp hl hc rfl rfl
    · rcases sendCommandWithData_cases c hb s with ⟨_, _, h⟩ | ⟨_, h⟩ | ⟨_, _, h⟩ <;> rw [h]
      · exact .commandData op k l c bs hp hl hc hb (by simp) (by simp)
      · exact .commandFault op k l c bs hp hl hc rfl rfl
      · exact .dataFault op k l c bs hp hl hc hb
          (by simp [transportFault, State.emit, State.answer, State.ctlForget, commandPhase]) rfl
  · refine .silent ?_ ?_ <;> (unfold compareProfile; split <;> simp [finish, State.answer])
  · exact .silent (by simp [loadProfile]) (by simp [loadProfile])

/-! ### Runs -/

@[simp] theorem run_zero (s : State) : run 0 s = .next s := rfl

theorem run_succ {s t : State} (k : Nat) (h : step s = .next t) : run (k + 1) s = run k t := by
  simp only [run, h]

theorem run_one {s t : State} (h : step s = .next t) : run 1 s = .next t := run_succ 0 h

/-- A run of one step more begins with a step. -/
theorem run_succ_cases {s t : State} {k : Nat} (h : run (k + 1) s = .next t) :
    ∃ u, step s = .next u ∧ run k u = .next t := by
  cases hs : step s with
  | next u => exact ⟨u, rfl, (run_succ k hs).symm.trans h⟩
  | fault r => simp [run, hs] at h
  | refused r => simp [run, hs] at h

/-- A run is a run of the host's interface. -/
theorem run_eq_core (k : Nat) (s : State) : run k s = core.run k s := by
  induction k generalizing s with
  | zero => rfl
  | succ k ih =>
    cases hs : step s with
    | next t =>
      have hc : core.step s = .next t := hs
      rw [run_succ k hs, ih]
      simp only [Host.Core.run, hc]
      rfl
    | fault r =>
      have hc : core.step s = .fault r := hs
      simp only [run, hs, Host.Core.run, hc]
      rfl
    | refused r =>
      have hc : core.step s = .refused r := hs
      simp only [run, hs, Host.Core.run, hc]
      rfl

/-- Runs compose. -/
theorem run_add {s t : State} {j : Nat} (k : Nat) (h : run j s = .next t) : run (j + k) s = run k t := by
  induction j generalizing s with
  | zero => cases h; rw [Nat.zero_add]
  | succ j ih =>
    obtain ⟨u, hs, hr⟩ := run_succ_cases h
    rw [Nat.add_right_comm, run_succ _ hs, ih hr]

end Sys2Proof.Machine
end

