-- ==== Sys2Proof/Tests/Slice0.lean ====
section
/-! SUPPORT. Small tests with results taken from spec/95_test_vectors.md, the WellFormed smoke test, and for each statement with hypotheses states and operands that meet them. -/

namespace Sys2Proof.Tests

open Sys2Proof Sys2Proof.Machine

/-! ### Helpers -/

/-- CFG_GK with short waveform tables, which CFG_GK leaves symbolic (R8). -/
def testCfg : Cfg :=
  { Cfg.gk with lutLen := 2, lutFull := [0x0A, 0x0B], lutQuick := [0x1A, 0x1B] }

/-- Idle at every sample, no fault. -/
def quiet : Env :=
  { busy := List.replicate 8 .high, faults := List.replicate 48 false, samples := 0, actions := 0 }

/-- The next fault answers are these. -/
def faulting (fs : List Bool) : Env := { quiet with faults := fs }

/-- Ready, with a value of `ST`. -/
def standing (st : St) : State := { State.resetWith testCfg with st := st, env := quiet }

/-- In a request, at a step. -/
def atStep (op : Op) (k : Nat) (st : St) : State := { standing st with seqPos := .running op k }

/-- A buffer of `FB_LEN` bytes. -/
def fullBuf : List Byte := List.replicate 3813 0xFF

theorem fullBuf_length : fullBuf.length = 3813 := List.length_replicate

theorem fbLen_eq : fbLen = 3813 := rfl

/-- The next state of an outcome, if it is one. -/
def nextOf : Host.Outcome State Fault Refusal → Option State
  | .next t => some t
  | .fault _ => none
  | .refused _ => none

/-- What a trace vector shows: the trace, the results, the state. -/
def shown (o : Host.Outcome State Fault Refusal) : Option (List Event × List Result × St) :=
  (nextOf o).map (fun t => (t.trace, t.results, t.st))

/-! ### WellFormed smoke: one ill-formed term for each check (R90, R93) -/

theorem test_illformed_empty_payload :
    ([.driverOutputControl [], .dataEntryMode [], .setRamXWindow [], .setRamYWindow [],
      .borderWaveformControl [], .displayUpdateControl1 [], .tempSensorControl [],
      .setRamXCounter [], .setRamYCounter [], .writeRam [], .displayUpdateControl2 [],
      .writeLutRegister [], .deepSleepMode []] : List Instr).all (fun i => !i.wf) = true := by decide

theorem test_illformed_two_bytes :
    (Instr.borderWaveformControl [0x03, 0x00]).wf = false ∧
    (Instr.displayUpdateControl2 [0xC7, 0x00]).wf = false := ⟨rfl, rfl⟩

theorem test_illformed_short_buffer : (Instr.writeRam (List.replicate 3812 0)).wf = false := by
  rw [Instr.wf, List.length_replicate]
  rfl

theorem test_wellformed_write_ram : (Instr.writeRam fullBuf).wf = true := by
  simp [Instr.wf, fullBuf_length, fbLen_eq]

/-! ### Decoding: words written out from R96, R97 and R99 (V20 to V50) -/

/-- V20 to V29: the opcode bytes of R97 written bit by bit. -/
theorem test_decode_init_frames :
    decode opcGk (.frame 0b00010010 []) = .ok .swReset ∧
    decode opcGk (.frame 0b00000001 [0xF9, 0x00, 0x00]) = .ok (.driverOutputControl [0xF9, 0x00, 0x00]) ∧
    decode opcGk (.frame 0b00010001 [0x02]) = .ok (.dataEntryMode [0x02]) ∧
    decode opcGk (.frame 0b01000100 [0x00, 0x0F]) = .ok (.setRamXWindow [0x00, 0x0F]) ∧
    decode opcGk (.frame 0b01000101 [0, 0, 0xF9, 0]) = .ok (.setRamYWindow [0, 0, 0xF9, 0]) ∧
    decode opcGk (.frame 0b00111100 [0x03]) = .ok (.borderWaveformControl [0x03]) ∧
    decode opcGk (.frame 0b00100001 [0x00, 0x80]) = .ok (.displayUpdateControl1 [0x00, 0x80]) ∧
    decode opcGk (.frame 0b00011000 [0x80]) = .ok (.tempSensorControl [0x80]) ∧
    decode opcGk (.frame 0b01001110 [0x00]) = .ok (.setRamXCounter [0x00]) ∧
    decode opcGk (.frame 0b01001111 [0x00, 0x00]) = .ok (.setRamYCounter [0x00, 0x00]) :=
  ⟨rfl, rfl, rfl, rfl, rfl, rfl, rfl, rfl, rfl, rfl⟩

/-- V30 to V36. -/
theorem test_decode_other_frames :
    decode opcGk (.frame 0b00100100 [0xA5]) = .ok (.writeRam [0xA5]) ∧
    decode opcGk (.frame 0b00100010 [0xC7]) = .ok (.displayUpdateControl2 [0xC7]) ∧
    decode opcGk (.frame 0b00100000 []) = .ok .masterActivation ∧
    decode opcGk (.frame 0b00110010 [0x1A, 0x1B]) = .ok (.writeLutRegister [0x1A, 0x1B]) ∧
    decode opcGk (.frame 0b00010000 [0x01]) = .ok (.deepSleepMode [0x01]) :=
  ⟨rfl, rfl, rfl, rfl, rfl⟩

/-- A byte that is no command, and the two frame formats mixed up (R98, R90). -/
theorem test_decode_rejects :
    decode opcGk (.frame 0x99 [0x00]) = .error (.invalid 0x99) ∧
    decode opcGk (.frame 0x12 [0x00]) = .error (.payloadUnexpected .swReset) ∧
    decode opcGk (.frame 0x44 []) = .error (.payloadMissing .setRamXWindow) := ⟨rfl, rfl, rfl⟩

/-- Bytes with the select line high before any opcode byte are no frame; the others are cut at each opcode
byte (R91, R93). -/
theorem test_decode_stream :
    decodeStream opcGk [⟨.high, 0x07⟩, ⟨.low, 0x12⟩, ⟨.low, 0x44⟩, ⟨.high, 0x00⟩, ⟨.high, 0x0F⟩, ⟨.low, 0x20⟩] =
    [.error (.dataWithoutCommand [0x07]), .ok .swReset, .ok (.setRamXWindow [0x00, 0x0F]),
      .ok .masterActivation] := rfl

/-- V40 to V49, and the requests between them. -/
theorem test_decode_requests :
    decodeRequest 0x00 [] = .construct ∧ decodeRequest 0x01 [] = .wake ∧ decodeRequest 0x02 [] = .sleep ∧
    decodeRequest 0xE3 [0xA5] = .update [0xA5] ∧ decodeRequest 0x13 [0xA5] = .update [0xA5] ∧
    decodeRequest 0x04 [] = .display ∧ decodeRequest 0x05 [0xA5] = .updateAndDisplay [0xA5] ∧
    decodeRequest 0x06 [] = .setRefreshProfile .full ∧ decodeRequest 0x16 [] = .setRefreshProfile .quick ∧
    decodeRequest 0xF6 [] = .setRefreshProfile .quick ∧
    decodeRequest 0x07 [] = .setBackgroundColor .black ∧
    decodeRequest 0x17 [] = .setBackgroundColor .white ∧ decodeRequest 0x08 [] = .width ∧
    decodeRequest 0x09 [] = .height ∧ decodeRequest 0x0A [0xA5] = .updatePartial ∧
    decodeRequest 0x0B [] = .clearFrame :=
  ⟨rfl, rfl, rfl, rfl, rfl, rfl, rfl, rfl, rfl, rfl, rfl, rfl, rfl, rfl, rfl, rfl⟩

/-- V50. -/
theorem test_decode_reserved :
    [0x0C, 0x0D, 0x0E, 0x0F, 0x1C, 0xFF].map (fun w : Byte => decodeRequest w []) =
    [.reserved 0, .reserved 1, .reserved 2, .reserved 3, .reserved 0, .reserved 3] := rfl

/-- The one word two rows of the opcode table share is read as the request (log 15). -/
theorem test_decode_table_words :
    decodeTableWord 8 0x01 = some .wake ∧ decodeTableWord 8 0x45 = some (.setRamYWindow [0, 0, 0, 0]) ∧
    decodeTableWord 8 0x256 = none := ⟨rfl, rfl, rfl⟩

/-! ### Codes (R21, R101, R220) -/

theorem test_codes :
    [St.uninitialized, .initializing, .idle, .writing, .activating, .sleeping, .faulted].map St.code =
      [0, 1, 2, 3, 4, 5, 6] ∧
    [Result.ok, .preconditionViolation .unsupported, .transportFault].map Result.code = [0, 1, 2] ∧
    [Why.lengthMismatch, .unsupported, .illegalState, .reservedCode].map Why.code = [1, 2, 3, 4] :=
  ⟨rfl, rfl, rfl⟩

/-! ### Framer primitives (V1 to V18) -/

/-- V1. -/
theorem test_reset_pulse :
    shown (step (atStep .wake 0 .initializing)) =
    some ([.rst .low, .delay 10000, .rst .high, .delay 10000], [], .initializing) := rfl

/-- V3: the line is left low. -/
theorem test_reset_fault_rising :
    (nextOf (step { atStep .wake 0 .initializing with env := faulting [false, true] })).map
      (fun t => (t.trace, t.rst, t.st)) =
    some ([.rst .low, .delay 10000, .fault (.rst .high)], .low, .faulted) := rfl

/-- V4: the line keeps its level. -/
theorem test_reset_fault_falling :
    (nextOf (step { atStep .wake 0 .initializing with env := faulting [true] })).map
      (fun t => (t.trace, t.rst, t.st)) = some ([.fault (.rst .low)], .high, .faulted) := rfl

/-- V12 and V18: one idle reading ends the wait. -/
theorem test_wait_idle :
    (nextOf (step (atStep .wake 1 .initializing))).map (fun t => (t.trace, t.seqPos)) =
    some ([.busy .high], .running .wake 2) := rfl

/-- V13, its first round: busy, the delay, and the step is not left. -/
theorem test_wait_busy :
    (nextOf (step { atStep .wake 1 .initializing with env := { quiet with busy := [.low, .low, .high] } })).map
      (fun t => (t.trace, t.seqPos)) = some ([.busy .low, .delay 1], .running .wake 1) := rfl

/-- V16, its last round. -/
theorem test_wait_fault :
    shown (step { atStep .wake 1 .initializing with env := faulting [true] }) =
    some ([.fault .busy], [.transportFault], .faulted) := rfl

/-! ### Controller commands (V5 to V9, V20 to V36) -/

/-- V5: the shadow forgets everything but SW_RESET itself. -/
theorem test_sw_reset :
    (nextOf (exec .swReset { atStep .wake 2 .initializing with
      ctl := Ctl.allUnknown.put .dataEntryMode (.sent [0x02]) })).map
      (fun t => (t.trace, t.ctl.get .swReset, t.ctl.get .dataEntryMode)) =
    some ([.cmd 0x12], .sent [], .unknown) := rfl

/-- V6 and V7. -/
theorem test_master_activation :
    (nextOf (exec .masterActivation (atStep .display 1 .activating))).map
      (fun t => (t.trace, t.ctl.get .masterActivation)) = some ([.cmd 0x20], .sent []) ∧
    (nextOf (exec .masterActivation { atStep .display 1 .activating with env := faulting [true] })).map
      (fun t => (t.trace, t.st, t.ctl.get .masterActivation)) =
      some ([.fault (.cmd 0x20)], .faulted, .unknown) := ⟨rfl, rfl⟩

/-- V21 to V29 by position: what `Init` sends at steps I4 to I12. -/
theorem test_init_frames :
    (List.range 9).map (fun k => (shown (step (atStep .construct (k + 4) .initializing))).map Prod.fst) =
    [some [.cmd 0x01, .data [0xF9, 0x00, 0x00]], some [.cmd 0x11, .data [0x02]],
      some [.cmd 0x44, .data [0x00, 0x0F]], some [.cmd 0x45, .data [0x00, 0x00, 0xF9, 0x00]],
      some [.cmd 0x3C, .data [0x03]], some [.cmd 0x21, .data [0x00, 0x80]],
      some [.cmd 0x18, .data [0x80]], some [.cmd 0x4E, .data [0x00]],
      some [.cmd 0x4F, .data [0x00, 0x00]]] := rfl

/-- V9. -/
theorem test_fault_in_data_phase :
    (nextOf (exec (.setRamYWindow [0x00, 0x00, 0xF9, 0x00])
      { atStep .wake 7 .initializing with env := faulting [false, true] })).map
      (fun t => (t.trace, t.st, t.ctl.get .setRamYWindow)) =
    some ([.cmd 0x45, .fault .data], .faulted, .unknown) := rfl

/-- V10 in small: the first byte of the buffer is sent first (R66). -/
theorem test_write_ram :
    (nextOf (exec (.writeRam [0x00, 0x01, 0x02]) (atStep (.update [0x00, 0x01, 0x02]) 18 .writing))).map
      (fun t => (t.trace, t.ctl.get .writeRam, t.st)) =
    some ([.cmd 0x24, .data [0x00, 0x01, 0x02]], .sent [0x00, 0x01, 0x02], .idle) := rfl

/-- V11: no payload means the command alone. -/
theorem test_empty_payload :
    (nextOf (exec (.dataEntryMode []) (atStep .wake 5 .initializing))).map
      (fun t => (t.trace, t.ctl.get .dataEntryMode)) = some ([.cmd 0x11], .sent []) := rfl

/-- V31 and V32: the two activation images. -/
theorem test_display_update_control_2 :
    (shown (step (atStep .display 0 .activating))).map Prod.fst = some [.cmd 0x22, .data [0xC7]] ∧
    (shown (step (atStep .sleep 1 .idle))).map Prod.fst = some [.cmd 0x22, .data [0xC3]] := ⟨rfl, rfl⟩

/-- V35 and V36: with NoRetain the shadow forgets the RAM (V80). -/
theorem test_deep_sleep_mode :
    shown (step (atStep .sleep 3 .idle)) = some ([.cmd 0x10, .data [0x01]], [.ok], .sleeping) ∧
    (nextOf (step { atStep .sleep 3 .idle with
      sleepDepth := .noRetain, ctl := Ctl.allUnknown.put .writeRam (.sent [0xFF]) })).map
      (fun t => (t.trace, t.st, t.ctl.get .writeRam)) =
      some ([.cmd 0x10, .data [0x03]], .sleeping, .unknown) := ⟨rfl, rfl⟩

/-- V34. -/
theorem test_write_lut_register :
    (shown (step (atStep (.setRefreshProfile .quick) 1 .idle))).map Prod.fst =
    some [.cmd 0x32, .data [0x1A, 0x1B]] := rfl

/-! ### Requests (V60 to V108) -/

/-- The table of B4: `why` by request and state, 0 where it is accepted. -/
theorem test_legality_table :
    (([.construct, .wake, .sleep, .display, .setRefreshProfile .quick, .setBackgroundColor .black, .width,
        .height, .updatePartial, .clearFrame, .reserved 2] : List Instr).map (fun i =>
      [St.uninitialized, .idle, .sleeping, .faulted].map (fun st =>
        ((precheck i st).map Why.code).getD 0))) =
    [[0, 0, 0, 0], [0, 0, 0, 0], [3, 0, 3, 3], [3, 0, 3, 3], [3, 0, 3, 3], [0, 0, 0, 0], [0, 0, 0, 0],
      [0, 0, 0, 0], [2, 2, 2, 2], [2, 2, 2, 2], [4, 4, 4, 4]] := rfl

/-- V60, V61: CONSTRUCT reloads the registers and stands at I0. -/
theorem test_construct :
    (nextOf (exec .construct { standing .idle with profile := .quick, bg := .black })).map
      (fun t => (t.st, t.profile, t.bg, t.seqPos)) =
    some (.initializing, .full, .white, .running .construct 0) := rfl

/-- V62: WAKE keeps them. -/
theorem test_wake :
    (nextOf (exec .wake { standing .sleeping with profile := .quick, bg := .black })).map
      (fun t => (t.st, t.profile, t.bg, t.seqPos)) =
    some (.initializing, .quick, .black, .running .wake 0) := rfl

/-- V66 and V107: a wrong length is rejected before any action, whatever would fault. -/
theorem test_update_length :
    shown (exec (.update [0xA5, 0xA5]) { standing .idle with env := faulting [true] }) =
    some ([], [.preconditionViolation .lengthMismatch], .idle) := rfl

/-- V64: accepted from `Uninitialized`. -/
theorem test_update_accepted : precheck (.update fullBuf) .uninitialized = none := by
  simp [precheck, isReserved, isUnsupported, legality, badLength, fullBuf_length, fbLen_eq]

/-- V70 and V72. -/
theorem test_display :
    (nextOf (exec .display (standing .idle))).map (fun t => (t.st, t.seqPos)) =
      some (.activating, .running .display 0) ∧
    shown (exec .display (standing .uninitialized)) =
      some ([], [.preconditionViolation .illegalState], .uninitialized) := ⟨rfl, rfl⟩

/-- V74: neither part runs. -/
theorem test_update_and_display_length :
    shown (exec (.updateAndDisplay [0xA5]) (standing .idle)) =
    some ([], [.preconditionViolation .lengthMismatch], .idle) := rfl

/-- V105: the fault at MASTER_ACTIVATION of SLEEP ends in `Faulted`, not `Sleeping`; V81. -/
theorem test_sleep :
    shown (step { atStep .sleep 2 .idle with env := faulting [true] }) =
      some ([.fault (.cmd 0x20)], [.transportFault], .faulted) ∧
    shown (exec .sleep (standing .sleeping)) =
      some ([], [.preconditionViolation .illegalState], .sleeping) := ⟨rfl, rfl⟩

/-- V76 and V79. -/
theorem test_set_refresh_profile :
    (nextOf (step { atStep (.setRefreshProfile .quick) 0 .idle with profile := .quick })).map
      (fun t => (t.trace, t.results, t.seqPos)) = some ([], [.ok], .ready) ∧
    (nextOf (step { atStep (.setRefreshProfile .quick) 1 .idle with env := faulting [false, true] })).map
      (fun t => (t.trace, t.results, t.st, t.profile)) =
      some ([.cmd 0x32, .fault .data], [.transportFault], .faulted, .full) := ⟨rfl, rfl⟩

/-- V82. -/
theorem test_set_background_color :
    (nextOf (exec (.setBackgroundColor .black) (standing .sleeping))).map
      (fun t => (t.trace, t.results, t.st, t.bg)) = some ([], [.ok], .sleeping, .black) := rfl

/-- V83 and V84. -/
theorem test_width_height :
    shown (exec .width (standing .faulted)) = some ([], [.okValue 0x007A], .faulted) ∧
    shown (exec .height (standing .faulted)) = some ([], [.okValue 0x00FA], .faulted) := ⟨rfl, rfl⟩

/-- S7 and V85. -/
theorem test_always_rejected :
    shown (exec .updatePartial (standing .idle)) = some ([], [.preconditionViolation .unsupported], .idle) ∧
    shown (exec .clearFrame (standing .idle)) = some ([], [.preconditionViolation .unsupported], .idle) ∧
    shown (exec (.reserved 2) (standing .idle)) =
      some ([], [.preconditionViolation .reservedCode], .idle) := ⟨rfl, rfl, rfl⟩

/-- V91: rows are not padded (the last pixel meets PixelsPackedWithoutPadding's bound). -/
theorem test_pixels :
    pixelByte 0 0 = 0 ∧ pixelIndex 121 0 = 121 ∧ pixelByte 121 0 = 15 ∧ pixelIndex 0 1 = 122 ∧
    pixelByte 0 1 = 15 ∧ pixelIndex 121 249 = 30499 ∧ pixelByte 121 249 = 3812 :=
  ⟨rfl, rfl, rfl, rfl, rfl, rfl, rfl⟩

/-- A run that ended well, one that ended in a fault, one with a request left to be issued (R254). -/
theorem test_final :
    { standing .idle with results := [.ok] }.final (fun _ => false) = true ∧
    { standing .faulted with results := [.ok, .transportFault] }.final (fun _ => true) = false ∧
    { standing .faulted with results := [.ok, .transportFault] }.goneWrong = true ∧
    { standing .idle with results := [.ok], script := [⟨0x02, []⟩] }.over = false := ⟨rfl, rfl, rfl, rfl⟩

/-- A rejection ends a final run only if it was expected, and a recovered fault stays in the trace (R254,
R229). -/
theorem test_expected_rejection :
    let s : State := { standing .idle with
      results := [.ok, .preconditionViolation .unsupported], trace := [.fault .busy, .busy .high] }
    s.final (fun why => why == .unsupported) = true ∧ s.final (fun why => why == .illegalState) = false ∧
    s.goneWrong = true := ⟨rfl, rfl, rfl⟩

/-- V1 event by event: after the first event of the reset pulse the line is low, after the third high. -/
theorem test_event_reset :
    (match eventRun 1 ⟨atStep .wake 0 .initializing, .start⟩ with
      | .next m => m.state.rst = .low ∧ m.state.trace = [.rst .low] ∧ m.phase = .pulseLow
      | _ => False) ∧
    (match eventRun 3 ⟨atStep .wake 0 .initializing, .start⟩ with
      | .next m => m.state.rst = .high ∧ m.phase = .pulseSettle ∧ m.state.seqPos = .running .wake 0
      | _ => False) := ⟨⟨rfl, rfl, rfl⟩, ⟨rfl, rfl, rfl⟩⟩

/-- V8 event by event: between the two events of the frame the shadow does not yet hold the payload. -/
theorem test_event_frame :
    (match event ⟨atStep .wake 5 .initializing, .start⟩ with
      | .next m => m.state.trace = [.cmd 0x11] ∧ m.state.ctl.get .dataEntryMode = .unknown ∧
        m.phase = .data .dataEntryMode [0x02]
      | _ => False) ∧
    (match eventRun 2 ⟨atStep .wake 5 .initializing, .start⟩ with
      | .next m => m.state.trace = [.cmd 0x11, .data [0x02]] ∧
        m.state.ctl.get .dataEntryMode = .sent [0x02] ∧ m.state.seqPos = .running .wake 6 ∧ m.phase = .start
      | _ => False) := ⟨⟨rfl, rfl, rfl⟩, ⟨rfl, rfl, rfl, rfl⟩⟩

/-- Words of the table run as the first instruction after reset: WIDTH answers, MASTER_ACTIVATION is what
the step fetches. -/
theorem test_table_word_runs :
    (nextOf (step (State.reset.withFetchWord 8 0x08))).map (fun t => t.results) = some [.okValue 122] ∧
    fetch (State.reset.withFetchWord 8 0x20) =
      .instr .masterActivation (State.reset.withFetchWord 8 0x20) := ⟨rfl, rfl⟩

/-! ### Witnesses: states and operands that meet the hypotheses of each statement -/

theorem opcGk_injective : opcGk.Injective := by decide

theorem testCfg_valid : testCfg.Valid := by decide

/-- DecodeOfEncode. -/
theorem test_meets_decode_of_encode :
    opcGk.Injective ∧ (Instr.setRamYWindow [0, 0, 0xF9, 0]).wf = true ∧
    (Instr.reserved 3).wf = true ∧ (Instr.writeRam fullBuf).wf = true :=
  ⟨opcGk_injective, rfl, rfl, test_wellformed_write_ram⟩

/-- StreamOfFramesDecodes. -/
theorem test_meets_stream_of_frames :
    ∀ i ∈ ([.swReset, .setRamXWindow [0x00, 0x0F], .masterActivation] : List Instr),
      i.wf = true ∧ i.command?.isSome = true := by decide

/-- RequestCodesSelect: both values of the operand bit, both ends of the reserved range. -/
theorem test_meets_request_codes :
    [0xE0, 0xE1, 0xE2, 0xE3, 0xE4, 0xE5, 0xE8, 0xE9, 0xEA, 0xEB].map (fun w : Byte => reqCode w) =
      [0, 1, 2, 3, 4, 5, 8, 9, 10, 11] ∧
    [0xE6, 0xF6, 0xE7, 0xF7].map (fun w : Byte => (reqCode w, reqArg w)) =
      [(6, 0), (6, 1), (7, 0), (7, 1)] ∧
    12 ≤ reqCode 0xEC ∧ 12 ≤ reqCode 0xFF := ⟨rfl, rfl, by decide, by decide⟩

/-- BackgroundColorStored: both colours, and a run after it. -/
theorem test_meets_background_color :
    reqCode 0xE7 = 7 ∧ reqArg 0xE7 = Color.black.toBit ∧ reqArg 0xF7 = Color.white.toBit ∧
    ∃ u, run 1 (standing .idle) = .next u := ⟨rfl, rfl, rfl, ⟨_, rfl⟩⟩

/-- IgnoredRequestBits. -/
theorem test_meets_ignored_bits :
    (reqCode 0xE3 = reqCode 0x13 ∧ reqCode 0xE3 ≠ 6 ∧ reqCode 0xE3 ≠ 7) ∧
    (reqCode 0x16 = reqCode 0xF6 ∧ reqArg 0x16 = reqArg 0xF6) := by decide

/-- OpcodeByteDecodes: a byte of no command. -/
theorem test_meets_opcode_byte : ∀ c, opcGk.code c ≠ 0x99 := fun c => by cases c <;> decide

/-- StepRunsPresentedRequest. -/
theorem test_meets_presented_request :
    ∃ (s : State) (r : HostReq) (rest : List HostReq) (i : Instr), s.seqPos = .ready ∧ s.script = r :: rest ∧
      decode s.cfg.opc (.request r.word r.buf) = .ok i :=
  ⟨{ standing .idle with script := [⟨0x08, []⟩, ⟨0x09, []⟩] }, ⟨0x08, []⟩, [⟨0x09, []⟩], .width, rfl, rfl, rfl⟩

/-- StepRunsCommandOfPosition: a position for every clause. -/
theorem test_meets_command_of_position :
    ([2, 4, 5, 6, 7, 8, 9, 10, 11, 12].map (fun k => (stepsOf .wake)[k]?) =
      [some .i2, some .i4, some .i5, some .i6, some .i7, some .i8, some .i9, some .i10, some .i11, some .i12]) ∧
    ([14, 15, 16, 17, 18, 19, 20].map (fun k => (stepsOf (.updateAndDisplay [0xA5]))[k]?) =
      [some .w0, some .w1, some .w2, some .w3, some .w4, some .a0, some .a1]) ∧
    ([1, 2, 3].map (fun k => (stepsOf .sleep)[k]?) = [some .s1, some .s2, some .s3]) ∧
    (stepsOf (.setRefreshProfile .quick))[1]? = some .p1 ∧
    (atStep (.setRefreshProfile .quick) 1 .idle).seqPos = .running (.setRefreshProfile .quick) 1 :=
  ⟨rfl, rfl, rfl, rfl, rfl⟩

/-- ResetPulse. -/
theorem test_meets_reset_pulse :
    (atStep .wake 0 .initializing).seqPos = .running .wake 0 ∧ (stepsOf .wake)[0]? = some .i0 ∧
    (atStep .wake 0 .initializing).env.Quiet 2 := ⟨rfl, rfl, by decide⟩

/-- A state at a wait whose next samples read these levels. -/
def waiting (op : Op) (k : Nat) (st : St) (ls : List Level) : State :=
  { atStep op k st with env := { quiet with busy := ls } }

/-- WaitIdleReturnsAtFirstIdle and WaitStepsAreTheTable: each kind of wait, with two busy readings and with
none. -/
theorem test_meets_wait :
    (∀ w ∈ [(Op.wake, 1, StepLabel.i1), (.construct, 3, .i3), (.update [0xA5], 13, .i13), (.display, 2, .a2),
        (.updateAndDisplay [0xA5], 21, .a2), (.sleep, 0, .s0)],
      (waiting w.1 w.2.1 .idle (waits 2)).seqPos = .running w.1 w.2.1 ∧
      (stepsOf w.1)[w.2.1]? = some w.2.2 ∧ w.2.2 ∈ [StepLabel.i1, .i3, .i13, .a2, .s0] ∧
      (waiting w.1 w.2.1 .idle (waits 2)).env.Quiet (2 + 1) ∧
      (waiting w.1 w.2.1 .idle (waits 2)).env.Reads (waits 2) ∧
      (waiting w.1 w.2.1 .idle (waits 0)).env.Reads (waits 0)) := by decide

/-- BusyLineHangs. -/
theorem test_meets_busy_line :
    let s := waiting .display 2 .activating (List.replicate 3 .low)
    s.seqPos = .running .display 2 ∧ (stepsOf .display)[2]? = some .a2 ∧ s.env.Quiet 3 ∧
    s.env.Reads (List.replicate 3 .low) := ⟨rfl, rfl, by decide, by decide⟩

/-- BareCommandsComplete, DataCommandsComplete (each of its twelve), DeepSleepModeCompletes (both images). -/
theorem test_meets_commands_complete :
    let s := atStep .wake 5 .initializing
    s.env.faultAt 0 = false ∧ s.env.Quiet 2 ∧
    (∀ c ∈ Command.all, c = .swReset ∨ c = .masterActivation ∨ c = .deepSleepMode ∨
      (c.bare = false ∧ c ≠ .deepSleepMode)) ∧
    ([0x02] : List Byte) ≠ [] ∧ [0x03] = s.cfg.paySleepNoRetain ∧ [0x01] ≠ s.cfg.paySleepNoRetain :=
  ⟨rfl, by decide, by decide, by decide, rfl, by decide⟩

/-- CommandsLeaveUnchanged: with no fault, and with one in each phase. -/
theorem test_meets_command_frame (fs : List Bool) :
    ∃ t, exec (Command.instr .dataEntryMode [0x02])
      { atStep .wake 5 .initializing with env := faulting fs } = .next t := ⟨_, rfl⟩

/-- A state in CONSTRUCT whose next actions fault as listed. -/
def breaking (k : Nat) (fs : List Bool) : State :=
  { atStep .construct k .initializing with env := faulting fs }

/-- FaultInCommandPhase and FaultInSample (first line), ResetPulse's two faults and FaultInDataPhase. -/
theorem test_meets_faults :
    ((breaking 1 [true]).seqPos = .running .construct 1 ∧ (stepsOf .construct)[1]? = some .i1 ∧
      (breaking 1 [true]).env.faultAt 0 = true) ∧
    ((breaking 0 [true]).seqPos = .running .construct 0 ∧ (stepsOf .construct)[0]? = some .i0 ∧
      (breaking 0 [true]).env.faultAt 0 = true) ∧
    ((breaking 0 [false, true]).seqPos = .running .construct 0 ∧
      (breaking 0 [false, true]).env.faultAt 0 = false ∧ (breaking 0 [false, true]).env.faultAt 1 = true) ∧
    (Command.bare .writeLutRegister = false ∧ ([0x1A, 0x1B] : List Byte) ≠ []) :=
  ⟨⟨rfl, rfl, rfl⟩, ⟨rfl, rfl, rfl⟩, ⟨rfl, rfl, rfl⟩, rfl, by decide⟩

/-- The statements about requests between requests: the four accepting states, a buffer of the right
length and of two wrong ones. -/
theorem test_meets_between_requests :
    (∀ st ∈ [St.uninitialized, .idle, .sleeping, .faulted],
      (standing st).seqPos = .ready ∧ (standing st).st.transient = false) ∧
    (standing .idle).st = .idle ∧ (standing .sleeping).st ≠ .idle ∧ fullBuf.length = 3813 ∧
    (List.replicate 3812 (0 : Byte)).length ≠ 3813 ∧ (List.replicate 3814 (0 : Byte)).length ≠ 3813 :=
  ⟨by decide, rfl, by decide, fullBuf_length, by rw [List.length_replicate]; decide,
    by rw [List.length_replicate]; decide⟩

/-- RejectionChangesNothing and RequestsLeaveUnchanged (rejected, accepted). -/
theorem test_meets_rejection :
    (∃ t, exec .display (standing .sleeping) = .next t ∧
      t.results = (standing .sleeping).results ++ [.preconditionViolation .illegalState]) ∧
    (∃ t, exec .display (standing .idle) = .next t) ∧ Instr.display.command? = none :=
  ⟨⟨_, rfl, rfl⟩, ⟨_, rfl⟩, rfl⟩

/-- RequestsOutOfTurnRefused, both clauses. -/
theorem test_meets_out_of_turn :
    (atStep .wake 4 .initializing).seqPos = .running .wake 4 ∧ Instr.width.command? = none ∧
    (standing .writing).seqPos = .ready ∧ (standing .writing).st.transient = true := ⟨rfl, rfl, rfl, rfl⟩

/-- WakeRunsInit, ConstructRunsInit, UpdateWritesBuffer, with the waits of V63 and with none. -/
theorem test_meets_init_run :
    let s : State := { standing .sleeping with env := { quiet with busy := waits 1 ++ waits 2 ++ waits 1 } }
    s.cfg.Valid ∧ fullBuf.length = 3813 ∧ s.seqPos = .ready ∧ s.st.transient = false ∧
    s.env.Quiet (34 + (1 + 2 + 1)) ∧ s.env.Reads (waits 1 ++ waits 2 ++ waits 1) ∧
    (standing .sleeping).env.Reads (waits 0 ++ waits 0 ++ waits 0) :=
  ⟨testCfg_valid, fullBuf_length, rfl, rfl, by decide, by decide, by decide⟩

/-- UpdateAndDisplayDoesBoth, with the waits of P1. -/
theorem test_meets_update_and_display :
    let s : State := { standing .idle with
      env := { quiet with busy := waits 0 ++ waits 0 ++ waits 0 ++ waits 2 } }
    s.cfg.Valid ∧ fullBuf.length = 3813 ∧ s.seqPos = .ready ∧ s.st.transient = false ∧
    s.env.Quiet (38 + (0 + 0 + 0 + 2)) ∧ s.env.Reads (waits 0 ++ waits 0 ++ waits 0 ++ waits 2) :=
  ⟨testCfg_valid, fullBuf_length, rfl, rfl, by decide, by decide⟩

/-- DisplayActivates, SleepEntersDeepSleep, RefreshProfileSwitched (both clauses). -/
theorem test_meets_idle_runs :
    let s : State := { standing .idle with env := { quiet with busy := waits 2 } }
    s.cfg.Valid ∧ s.seqPos = .ready ∧ s.st = .idle ∧ s.env.Quiet (4 + 2) ∧ s.env.Quiet (6 + 2) ∧
    s.env.Quiet 2 ∧ s.env.Reads (waits 2) ∧ Profile.quick ≠ s.profile ∧ Profile.full = s.profile :=
  ⟨testCfg_valid, rfl, rfl, by decide, by decide, by decide, by decide, by decide, rfl⟩

/-- ConstructStepsAreWakeSteps: in the list, and at its end. -/
theorem test_meets_same_steps :
    (∃ t, step (atStep .wake 5 .initializing) = .next t) ∧
    (∃ t, step (atStep .wake 13 .initializing) = .next t) := ⟨⟨_, rfl⟩, ⟨_, rfl⟩⟩

/-- UpdateAndDisplayBeginsAsUpdate: both clauses, and both ends of W4. -/
theorem test_meets_begins_as_update :
    (∃ t, step (atStep (.update [0xA5]) 0 .initializing) = .next t) ∧
    (∃ t, step (atStep (.update [0xA5]) 18 .writing) = .next t ∧ t.st = .idle) ∧
    (∃ t, step { atStep (.update [0xA5]) 18 .writing with env := faulting [true] } = .next t ∧
      t.st = .faulted) := ⟨⟨_, rfl⟩, ⟨_, rfl, rfl⟩, ⟨_, rfl, rfl⟩⟩

/-- StepIsItsEvents: an event step in mid-frame, a step with next state, a step that faults, one refused. -/
theorem test_meets_events :
    (∃ n, event ⟨atStep .wake 5 .initializing, .data .dataEntryMode [0x02]⟩ = .next n) ∧
    (∃ t, step (atStep .wake 0 .initializing) = .next t) ∧
    step (atStep .wake 99 .initializing) = .fault .badSeqPos ∧
    step { standing .writing with script := [⟨0x08, []⟩] } = .refused .requestInTransientState :=
  ⟨⟨_, rfl⟩, ⟨_, rfl⟩, rfl, rfl⟩

/-- StepKeepsInvariant, StChangesAreTheTable: at Ready, in a request, at a request's end. -/
theorem test_meets_invariant :
    (standing .idle).inv = true ∧ (atStep .wake 13 .initializing).inv = true ∧
    (atStep (.setRefreshProfile .quick) 1 .idle).inv = true ∧
    (∃ t, step (atStep .wake 13 .initializing) = .next t ∧ t.st = .idle) :=
  ⟨rfl, rfl, rfl, ⟨_, rfl, rfl⟩⟩

/-- OnlyInitLeavesSleepingOrFaulted: with WAKE presented, and with DISPLAY. -/
theorem test_meets_only_init (st : St) (h : st = .sleeping ∨ st = .faulted) :
    { standing st with script := [⟨0x01, []⟩] }.inv = true ∧
    (∃ t, step { standing st with script := [⟨0x01, []⟩] } = .next t ∧ t.st = .initializing) ∧
    (∃ t, step { standing st with script := [⟨0x04, []⟩] } = .next t ∧ t.st = st) := by
  rcases h with rfl | rfl <;> exact ⟨rfl, ⟨_, rfl, rfl⟩, ⟨_, rfl, rfl⟩⟩

/-- ObservableOnlyGrows: a step that ends in a fault. -/
theorem test_meets_fault_reported :
    ∃ t, step (breaking 1 [true]) = .next t ∧ t.st = .faulted ∧ t.results = [.transportFault] :=
  ⟨_, rfl, rfl, rfl⟩

/-- ConfigurationNeverChanges, ConfigurationRegisterWriters: a step that writes
`PROFILE` at P2, by CONSTRUCT, and `BG` by SET_BACKGROUND_COLOR. -/
theorem test_meets_register_writers :
    (∃ t, step (atStep (.setRefreshProfile .quick) 2 .idle) = .next t ∧ t.profile = .quick) ∧
    (∃ t, step { standing .idle with profile := .quick, bg := .black, script := [⟨0x00, []⟩] } = .next t ∧
      t.profile = .full ∧ t.bg = .white) ∧
    (∃ t, step { standing .idle with script := [⟨0x07, []⟩] } = .next t ∧ t.bg = .black) :=
  ⟨⟨_, rfl, rfl⟩, ⟨_, rfl, rfl, rfl⟩, ⟨_, rfl, rfl⟩⟩

/-- DataFollowsCommandKept and ShadowFollowsTrace: a state in mid-`Init` with its trace. -/
theorem test_meets_trace_and_shadow :
    let s : State := { atStep .wake 5 .initializing with
      trace := [.rst .low, .rst .high, .cmd 0x01, .data [0xF9, 0x00, 0x00]]
      ctl := Ctl.allUnknown.put .driverOutputControl (.sent [0xF9, 0x00, 0x00]) }
    dataFollowsCmd false s.trace = true ∧ s.cfg.opc.Injective ∧ s.ctl = shadowOf s.cfg s.trace ∧
    ∃ t, step s = .next t := ⟨rfl, opcGk_injective, rfl, ⟨_, rfl⟩⟩

/-- TableSentOnlyOnProfileChange. -/
theorem test_meets_table_sent :
    let s := atStep (.setRefreshProfile .quick) 1 .idle
    s.inv = true ∧ s.cfg.Valid ∧ ∃ t new, step s = .next t ∧ t.trace = s.trace ++ new ∧
      .cmd s.cfg.opc.writeLutRegister ∈ new :=
  ⟨rfl, testCfg_valid, _, [.cmd 0x32, .data [0x1A, 0x1B]], rfl, rfl, List.mem_cons_self⟩

/-- RamWrittenOnlyWithWholeBuffer. -/
theorem test_meets_ram_written :
    let s := atStep (.update fullBuf) 18 .writing
    s.inv = true ∧ s.cfg.opc.Injective ∧ ∃ t new, step s = .next t ∧ t.trace = s.trace ++ new ∧
      .cmd s.cfg.opc.writeRam ∈ new := by
  refine ⟨?_, opcGk_injective, _, [.cmd 0x24, .data fullBuf], rfl, ?_, List.mem_cons_self⟩
  · show (St.writing == St.writing && fullBuf.length == fbLen && true) = true
    rw [fullBuf_length, fbLen_eq]
    rfl
  · have hb : fullBuf ≠ [] := fun h => absurd (congrArg List.length h) (by rw [fullBuf_length]; decide)
    rcases sendCommandWithData_cases .writeRam hb (atStep (.update fullBuf) 18 .writing) with
      ⟨_, _, h⟩ | ⟨h, _⟩ | ⟨_, h, _⟩
    · rw [h, advance_trace]
      rfl
    · exact absurd h (by decide)
    · exact absurd h (by decide)

/-- ActivationsStagedKept: at A1, the trace ending in the staged frame. -/
theorem test_meets_activations_staged :
    let s : State := { atStep .display 1 .activating with trace := [.cmd 0x22, .data [0xC7]] }
    s.inv = true ∧ s.cfg.opc.Injective ∧ ActivationsStaged s.cfg.opc s.trace ∧
    s.seqPos.label? = some .a1 ∧
    (∃ front bs, s.trace = front ++ [.cmd s.cfg.opc.displayUpdateControl2, .data bs]) ∧
    ∃ t, step s = .next t := by
  refine ⟨rfl, opcGk_injective, ?_, rfl, ⟨[], [0xC7], rfl⟩, ⟨_, rfl⟩⟩
  intro pre post h
  have hm : Event.cmd 0x20 ∈ [Event.cmd 0x22, Event.data [0xC7]] := by
    rw [show [Event.cmd 0x22, Event.data [0xC7]] = _ from h]
    exact List.mem_append_right pre List.mem_cons_self
  exact absurd hm (by decide)

/-- FirstCommandResetKept: at I2, no command sent yet, after the pulse and an idle reading. -/
theorem test_meets_first_command :
    let s : State := { atStep .construct 2 .initializing with
      trace := [.rst .low, .delay 10000, .rst .high, .delay 10000, .busy .high] }
    s.inv = true ∧ s.cfg.Valid ∧ FirstCommandReset s.cfg.opc s.trace ∧ noCommand s.trace = true ∧
    PulsedThen (fun rest => Event.busy .high ∈ rest) s.trace ∧ (stepsOf .construct)[0]? = some .i0 ∧
    ∃ t, step s = .next t := by
  refine ⟨rfl, testCfg_valid, ?_, rfl, ⟨[], 10000, 10000, [.busy .high], by decide, by decide, rfl,
    List.mem_cons_self⟩, rfl, ⟨_, rfl⟩⟩
  intro pre b post h _
  have hm : Event.cmd b ∈ [Event.rst .low, .delay 10000, .rst .high, .delay 10000, .busy .high] := by
    rw [show [Event.rst .low, .delay 10000, .rst .high, .delay 10000, .busy .high] = _ from h]
    exact List.mem_append_right pre List.mem_cons_self
  simp at hm

/-- UnreadStateIsInvisible: two states that differ in `BG` and the shadow. -/
theorem test_meets_unread :
    let s := standing .idle
    let t : State := { s with bg := .black, ctl := Ctl.allUnknown.put .writeRam (.sent [0xFF]) }
    SameButUnread s t ∧ s ≠ t := ⟨rfl, fun h => absurd (congrArg State.bg h) (by decide)⟩

/-- RequestReturnsUnderIdleReadings: in the longest request. -/
theorem test_meets_idle_readings :
    (atStep (.updateAndDisplay fullBuf) 0 .initializing).inv = true ∧ 4 ≤ quiet.busy.count .high := by
  refine ⟨?_, by decide⟩
  show (St.initializing == St.initializing && fullBuf.length == fbLen && true) = true
  rw [fullBuf_length, fbLen_eq]
  rfl

end Sys2Proof.Tests
end

/-! ### CFG_GK is consistent (00_scope.md R8, R12) -/

namespace Sys2Proof

/-- Both waveform tables of CFG_GK have `LUT_LEN` bytes, whatever the free bytes are (R211). -/
@[simp] theorem lutGk_length (p : Profile) : (lutGk p).length = Config.lutLenPred + 1 := by
  simp [lutGk]

/-- CFG_GK meets every constraint of R8: its images and durations are literals, its tables have the
declared positive length. -/
theorem Cfg.gk_valid : Cfg.gk.Valid := by
  have hfixed : resetLowMin ≤ Cfg.gk.resetLow ∧ resetSettleMin ≤ Cfg.gk.resetSettle ∧
      Cfg.gk.opc.Injective := by decide
  obtain ⟨hlow, hsettle, hopc⟩ := hfixed
  refine ⟨hlow, hsettle, hopc, ?_⟩
  simp [Cfg.gk]

/-- Settles O60: the constraints by `Cfg.gk_valid`, each image by evaluating its layout at the named value. -/
theorem namedConfigurationIsConsistent : Obligations.NamedConfigurationIsConsistent := by
  refine ⟨Cfg.gk_valid, ?_, ?_, ?_, ?_, ?_, ?_, ?_, ?_, ?_, fun d => ?_⟩
  case refine_10 => cases d <;> rfl
  all_goals rfl

end Sys2Proof

/-! ### What one step adds to the observable (00_scope.md R5) -/

namespace Sys2Proof.Machine

/-- From `s` to `t` the observable has grown by events and at most one result, with one `TransportFault`
for each FAULT, and `ST` has become `Faulted` only with one (R5, R222). -/
def GrowsTo (s t : State) : Prop :=
  ∃ (new : List Event) (rs : List Result), t.trace = s.trace ++ new ∧ t.results = s.results ++ rs ∧
    rs.length ≤ 1 ∧ new.countP Event.isFault = rs.count .transportFault ∧
    (t.st = .faulted → s.st = .faulted ∨ rs = [.transportFault])

/-- The entry of R226 appends one FAULT and delivers one `TransportFault`. -/
theorem growsTo_transportFault {s u : State} (a : Action) (new : List Event)
    (htrace : u.trace = s.trace ++ new) (hnew : new.countP Event.isFault = 0)
    (hresults : u.results = s.results) : GrowsTo s (transportFault a u) :=
  ⟨new ++ [.fault a], [.transportFault], by simp [htrace], by simp [hresults], by simp,
    by simp [hnew, Event.isFault], fun _ => .inr rfl⟩

/-- Without a FAULT: a result other than `TransportFault`, or none, and `ST` not newly `Faulted`. -/
theorem growsTo_of_noFault {s t : State} (new : List Event) (rs : List Result)
    (htrace : t.trace = s.trace ++ new) (hnew : new.countP Event.isFault = 0)
    (hresults : t.results = s.results ++ rs) (hrs : rs = [] ∨ ∃ r, rs = [r] ∧ r ≠ .transportFault)
    (hst : t.st = .faulted → s.st = .faulted) : GrowsTo s t := by
  refine ⟨new, rs, htrace, hresults, ?_, ?_, fun h => .inl (hst h)⟩ <;>
    rcases hrs with rfl | ⟨r, rfl, hr⟩ <;> simp_all

theorem growsTo_refl (s : State) : GrowsTo s s :=
  growsTo_of_noFault [] [] (by simp) rfl (by simp) (.inl rfl) id

/-- Delivering a result other than `TransportFault`. -/
theorem growsTo_answer {s u : State} {r : Result} (htrace : u.trace = s.trace)
    (hresults : u.results = s.results) (hst : u.st = s.st) (hr : r ≠ .transportFault) :
    GrowsTo s (u.answer r) :=
  growsTo_of_noFault [] [r] (by simp [htrace]) rfl (by simp [hresults]) (.inr ⟨r, rfl, hr⟩)
    (by simp [hst])

theorem stEntering_faulted {l : StepLabel} {st : St} (h : stEntering l st = .faulted) : st = .faulted := by
  cases l <;> simp [stEntering] at h <;> exact h

theorem stLeaving_faulted {l : StepLabel} {st : St} (h : stLeaving l st = .faulted) : st = .faulted := by
  cases l <;> simp [stLeaving] at h <;> exact h

theorem stDone_faulted {op : Op} {k : Nat} {st : St} (h : stDone op k st = .faulted) : st = .faulted := by
  unfold stDone at h
  split at h
  · exact stLeaving_faulted h
  · exact h

/-- The advance of SEQ_POS delivers `Ok` or nothing and never enters `Faulted` (R30, R178). -/
theorem growsTo_advance {s u : State} (new : List Event) (htrace : u.trace = s.trace ++ new)
    (hnew : new.countP Event.isFault = 0) (hresults : u.results = s.results) (hst : u.st = s.st) :
    GrowsTo s (advance u) := by
  rcases advance_cases u with ⟨-, h⟩ | ⟨op, k, l, -, -, h⟩ | ⟨op, k, -, -, h⟩ <;> rw [h]
  · exact growsTo_of_noFault new [] htrace hnew (by simp [hresults]) (.inl rfl) (hst ▸ id)
  · exact growsTo_of_noFault new [] htrace hnew (by simp [hresults]) (.inl rfl)
      (fun h => hst ▸ stDone_faulted (stEntering_faulted h))
  · exact growsTo_of_noFault new [.ok] htrace hnew (by simp [hresults]) (.inr ⟨.ok, rfl, by simp⟩)
      (fun h => hst ▸ stDone_faulted h)

/-! #### The framer primitives -/

theorem growsTo_resetPulse (low settle : Nat) (s : State) : GrowsTo s (resetPulse low settle s) := by
  rcases resetPulse_cases low settle s with ⟨-, -, h⟩ | ⟨-, h⟩ | ⟨-, -, h⟩ <;> rw [h]
  · exact growsTo_advance [.rst .low, .delay low, .rst .high, .delay settle] rfl rfl rfl rfl
  · exact growsTo_transportFault _ [] (by simp) rfl rfl
  · exact growsTo_transportFault _ [.rst .low, .delay low] rfl rfl rfl

theorem growsTo_waitIdle (s : State) : GrowsTo s (waitIdle s) := by
  rcases waitIdle_cases s with ⟨-, -, h⟩ | ⟨-, -, h⟩ | ⟨-, h⟩ <;> rw [h]
  · exact growsTo_advance [.busy .high] rfl rfl rfl rfl
  · exact growsTo_of_noFault [.busy .low, .delay s.cfg.pollDelay] [] rfl rfl (by simp) (.inl rfl) id
  · exact growsTo_transportFault _ [] (by simp) rfl rfl

theorem growsTo_sendCommand (c : Command) (s : State) : GrowsTo s (sendCommand c s) := by
  rcases sendCommand_cases c s with ⟨-, h⟩ | ⟨-, h⟩ <;> rw [h]
  · exact growsTo_advance [.cmd (s.cfg.opc.code c)] rfl rfl rfl rfl
  · exact growsTo_transportFault _ [] (by simp) rfl rfl

theorem growsTo_sendCommandWithData (c : Command) (bs : List Byte) (s : State) :
    GrowsTo s (sendCommandWithData c bs s) := by
  by_cases hb : bs = []
  · rw [hb, sendCommandWithData_nil]
    exact growsTo_sendCommand c s
  · rcases sendCommandWithData_cases c hb s with ⟨-, -, h⟩ | ⟨-, h⟩ | ⟨-, -, h⟩ <;> rw [h]
    · exact growsTo_advance [.cmd (s.cfg.opc.code c), .data bs] (by simp) rfl rfl rfl
    · exact growsTo_transportFault _ [] (by simp) rfl rfl
    · exact growsTo_transportFault _ [.cmd (s.cfg.opc.code c)] rfl rfl rfl

/-! #### Steps P0 and P2, and requests -/

theorem growsTo_compareProfile (p : Profile) (s : State) : GrowsTo s (compareProfile p s) := by
  unfold compareProfile
  split
  · exact growsTo_answer rfl rfl rfl (by simp)
  · exact growsTo_advance [] (by simp) rfl rfl rfl

theorem growsTo_loadProfile (p : Profile) (s : State) : GrowsTo s (loadProfile p s) :=
  growsTo_advance [] (by simp) rfl rfl rfl

/-- A request accepted delivers nothing yet: its step list is not empty (R171). -/
theorem growsTo_start (op : Op) {s u : State} (htrace : u.trace = s.trace)
    (hresults : u.results = s.results) (hst : u.st = s.st) : GrowsTo s (start op u) := by
  refine growsTo_of_noFault [] [] (by simp [htrace]) rfl (by simp [hresults]) (.inl rfl) (hst ▸ ?_)
  unfold start
  split
  · exact stEntering_faulted
  · exact id

/-- A request presented adds what its body adds, or the one result of its rejection (R225). -/
theorem growsTo_request {i : Instr} {body : State → State} {s t : State} (hbody : GrowsTo s (body s))
    (h : request i body s = .next t) : GrowsTo s t := by
  rcases request_cases i body s with ⟨_, _, _, h'⟩ | ⟨_, _, h'⟩ | ⟨_, _, why, _, h'⟩ | ⟨_, _, _, h'⟩ <;>
    rw [h'] at h <;> cases h
  · exact growsTo_answer rfl rfl rfl (by simp)
  · exact hbody

/-- What a request does once accepted: it starts a step list, answers, or has no body (R170). -/
theorem exec_request_growsTo {i : Instr} (hi : i.command? = none) (s : State) :
    ∃ body, exec i s = request i body s ∧ GrowsTo s (body s) := by
  cases i <;> simp only [Instr.command?, reduceCtorEq] at hi
  case construct => exact ⟨_, exec_construct s, growsTo_start _ rfl rfl rfl⟩
  case wake | sleep | update | display | updateAndDisplay | setRefreshProfile =>
    exact ⟨start _, rfl, growsTo_start _ rfl rfl rfl⟩
  case setBackgroundColor c =>
    exact ⟨_, exec_setBackgroundColor c s, growsTo_answer rfl rfl rfl (by simp)⟩
  case width | height =>
    exact ⟨State.answer _, rfl, growsTo_answer rfl rfl rfl (by simp)⟩
  case updatePartial | clearFrame | reserved =>
    exact ⟨id, rfl, growsTo_refl s⟩

/-- Any instruction executed: a command by its transmission, a request by its body. -/
theorem growsTo_exec {i : Instr} {s t : State} (h : exec i s = .next t) : GrowsTo s t := by
  cases hc : i.command? with
  | some cb =>
    rw [exec_of_command hc] at h
    cases h
    exact growsTo_sendCommandWithData ..
  | none =>
    obtain ⟨body, hexec, hbody⟩ := exec_request_growsTo hc s
    exact growsTo_request hbody (hexec ▸ h)

/-- Settles O46: by what a step can have performed (`step_cases`), each with its rule above. -/
theorem observableOnlyGrows : Obligations.ObservableOnlyGrows := by
  intro s t h
  change GrowsTo s t
  rcases step_cases h with ⟨-, -, rfl⟩ | ⟨r, rest, -, -, hx⟩ | ⟨op, -, -, rfl⟩ | ⟨op, k, l, -, -, -, rfl⟩ |
    ⟨op, k, l, c, bs, -, -, -, rfl⟩ | ⟨p, -, rfl⟩ | ⟨p, -, rfl⟩
  · exact growsTo_refl t
  · -- the script, shorter by the request taken, is no part of the observable
    change GrowsTo { s with script := rest } t
    exact growsTo_exec hx
  · exact growsTo_resetPulse ..
  · exact growsTo_waitIdle s
  · exact growsTo_sendCommandWithData ..
  · exact growsTo_compareProfile ..
  · exact growsTo_loadProfile ..

end Sys2Proof.Machine

/-! ### The two levels of step, side by side (00_scope.md R5, 10_state.md R30; log 5) -/

namespace Sys2Proof.Machine

/-! #### What is fetched -/

/-- What is fetched at `s`, by kind, and where SEQ_POS then stands for what emits no event. -/
inductive FetchKind (s : State) : Fetched → Prop
  | waiting : s.seqPos = .ready → FetchKind s .waiting
  | request (r : HostReq) (rest : List HostReq) : s.seqPos = .ready →
      FetchKind s (.instr (decodeRequest r.word r.buf) { s with script := rest })
  | command (i : Instr) (c : Command) (bs : List Byte) : i.command? = some (c, bs) →
      FetchKind s (.instr i s)
  | reset : FetchKind s .reset
  | wait : FetchKind s .wait
  | compare (p : Profile) : s.seqPos.label? = some .p0 → FetchKind s (.compare p)
  | load (p : Profile) : s.seqPos.label? = some .p2 → FetchKind s (.load p)
  | bad : FetchKind s .bad

/-- What a numbered step performs is of one of these kinds (R175, R183, R184, R186, R187). -/
theorem performs_kind {s : State} {op : Op} {l : StepLabel} (hl : s.seqPos.label? = some l) :
    FetchKind s (performs s op l) := by
  cases l
  case i0 => exact .reset
  case i1 | i3 | i13 | a2 | s0 => exact .wait
  case w4 =>
    cases hb : op.buf? <;> simp only [performs, hb]
    exacts [.bad, .command _ _ _ rfl]
  case p0 =>
    cases hp : op.profile? <;> simp only [performs, hp]
    exacts [.bad, .compare _ hl]
  case p1 =>
    cases hp : op.profile? <;> simp only [performs, hp]
    exacts [.bad, .command _ _ _ rfl]
  case p2 =>
    cases hp : op.profile? <;> simp only [performs, hp]
    exacts [.bad, .load _ hl]
  all_goals exact .command _ _ _ rfl

/-- Everything the fetch can answer (R30, R170). -/
theorem fetch_kind (s : State) : FetchKind s (fetch s) := by
  cases hp : s.seqPos with
  | ready =>
    cases hs : s.script with
    | nil => simpa [fetch, hp, hs] using FetchKind.waiting hp
    | cons r rest => simpa [fetch, hp, hs] using FetchKind.request r rest hp
  | running op k =>
    cases hl : (stepsOf op)[k]? with
    | none => simpa [fetch, hp, hl] using FetchKind.bad
    | some l =>
      rw [step_at hp hl]
      exact performs_kind (by simp [SeqPos.label?, hp, hl])

/-! #### One numbered step and its first event -/

/-- Where a step may emit no event: at Ready, P0 and P2 (R171, R187). -/
def State.AtSilentStep (s : State) : Prop :=
  s.seqPos = .ready ∨ s.seqPos.label? = some .p0 ∨ s.seqPos.label? = some .p2

/-- One numbered step from `s` beside the first step of the event level from there. -/
inductive BothLevels (s : State) : Prop
  | silent (t : State) : s.AtSilentStep → t.trace = s.trace → step s = .next t →
      event ⟨s, .start⟩ = .next ⟨t, .start⟩ → BothLevels s
  | command (c : Command) (bs : List Byte) : step s = .next (sendCommandWithData c bs s) →
      event ⟨s, .start⟩ = .next (commandEvent c bs s) → BothLevels s
  | reset : step s = .next (resetPulse s.cfg.resetLow s.cfg.resetSettle s) →
      event ⟨s, .start⟩ = .next (attemptEvent (.rst .low) id lowEdge .pulseLow s) → BothLevels s
  | wait : step s = .next (waitIdle s) → event ⟨s, .start⟩ = .next (sampleEvent s) → BothLevels s
  | fault (r : Fault) : step s = .fault r → event ⟨s, .start⟩ = .fault r → BothLevels s
  | refused (r : Refusal) : step s = .refused r → event ⟨s, .start⟩ = .refused r → BothLevels s

theorem compareProfile_trace (p : Profile) (s : State) : (compareProfile p s).trace = s.trace := by
  unfold compareProfile
  split <;> simp

/-- A request presented is one step of both levels, with the same outcome (R171). -/
theorem bothLevels_request {s : State} {r : HostReq} {rest : List HostReq} (hready : s.seqPos = .ready)
    (hf : fetch s = .instr (decodeRequest r.word r.buf) { s with script := rest }) : BothLevels s := by
  cases hx : exec (decodeRequest r.word r.buf) { s with script := rest } with
  | next t =>
    obtain ⟨-, htrace, -⟩ := exec_request_silent (decodeRequest_command _ _) hx
    exact .silent t (.inl hready) htrace (by simp [step, hf, hx]) (by simp [event, firstEvent, hf, hx])
  | fault e => exact .fault e (by simp [step, hf, hx]) (by simp [event, firstEvent, hf, hx])
  | refused e => exact .refused e (by simp [step, hf, hx]) (by simp [event, firstEvent, hf, hx])

/-- Every state has one of these pairs of steps. -/
theorem bothLevels (s : State) : BothLevels s := by
  have hkind := fetch_kind s
  generalize hf : fetch s = f at hkind
  cases hkind with
  | waiting hready => exact .silent s (.inl hready) rfl (by simp [step, hf]) (by simp [event, firstEvent, hf])
  | request r rest hready => exact bothLevels_request hready hf
  | command i c bs hc =>
    exact .command c bs (by simp [step, hf, exec_of_command hc]) (by simp [event, firstEvent, hf, hc])
  | reset => exact .reset (by simp [step, hf]) (by simp [event, firstEvent, hf])
  | wait => exact .wait (by simp [step, hf]) (by simp [event, firstEvent, hf])
  | compare p h0 =>
    exact .silent (compareProfile p s) (.inr (.inl h0)) (compareProfile_trace p s) (by simp [step, hf])
      (by simp [event, firstEvent, hf])
  | load p h2 =>
    exact .silent (loadProfile p s) (.inr (.inr h2)) (by simp [loadProfile]) (by simp [step, hf])
      (by simp [event, firstEvent, hf])
  | bad => exact .fault .badSeqPos (by simp [step, hf]) (by simp [event, firstEvent, hf])

/-! #### One step of the event level is one event -/

/-- Exactly one event has been appended to the trace. -/
def OneEvent (s t : State) : Prop := ∃ e, t.trace = s.trace ++ [e]

/-- An action that can fault is one event, its own or its FAULT (R125). -/
theorem attemptEvent_oneEvent (a : Action) {lost ok : State → State} (p : Phase) (s : State)
    (hlost : ∀ u, (lost u).trace = u.trace) (hok : ∀ u, OneEvent u (ok u)) :
    OneEvent s (attemptEvent a lost ok p s).state := by
  cases h : s.env.faultAt 0 with
  | true => exact ⟨.fault a, by simp [attemptEvent_fault h, hlost]⟩
  | false =>
    rw [attemptEvent_quiet h]
    exact hok { s with env := s.env.after 1 0 }

theorem commandEvent_oneEvent (c : Command) (bs : List Byte) (s : State) :
    OneEvent s (commandEvent c bs s).state := by
  unfold commandEvent
  split
  · exact attemptEvent_oneEvent _ _ s (fun _ => rfl) fun u => ⟨.cmd (u.cfg.opc.code c), by simp⟩
  · exact attemptEvent_oneEvent _ _ s (fun _ => rfl) fun u => ⟨.cmd (u.cfg.opc.code c), rfl⟩

theorem sampleEvent_oneEvent (s : State) : OneEvent s (sampleEvent s).state :=
  attemptEvent_oneEvent _ _ s (fun _ => rfl) fun u => ⟨.busy (u.env.busyAt 0), by split <;> simp⟩

/-- A step of the event level appends one event, or none where a numbered step has none. -/
theorem event_oneEvent_or_silent {m n : EventState} (h : event m = .next n) :
    OneEvent m.state n.state ∨
      (n.state.trace = m.state.trace ∧ m.phase = .start ∧ m.state.AtSilentStep) := by
  obtain ⟨s, phase⟩ := m
  cases phase with
  | start =>
    rcases bothLevels s with ⟨t, hat, htrace, -, he⟩ | ⟨c, bs, -, he⟩ | ⟨-, he⟩ | ⟨-, he⟩ |
      ⟨r, -, he⟩ | ⟨r, -, he⟩ <;> rw [he] at h <;> cases h
    · exact .inr ⟨htrace, rfl, hat⟩
    · exact .inl (commandEvent_oneEvent c bs s)
    · exact .inl (attemptEvent_oneEvent _ _ s (fun _ => rfl) fun u => ⟨.rst .low, rfl⟩)
    · exact .inl (sampleEvent_oneEvent s)
  | pulseLow => cases h; exact .inl ⟨_, rfl⟩
  | pulseHigh =>
    cases h
    exact .inl (attemptEvent_oneEvent _ _ s (fun _ => rfl) fun u => ⟨.rst .high, rfl⟩)
  | pulseSettle => cases h; exact .inl ⟨.delay s.cfg.resetSettle, by simp⟩
  | data c bs =>
    cases h
    exact .inl (attemptEvent_oneEvent _ _ s (fun _ => rfl) fun u => ⟨.data bs, by simp⟩)
  | poll => cases h; exact .inl ⟨_, rfl⟩

/-! #### A numbered step is its events -/

/-- `k + 1` steps of the event level lead from `m` to the start of a numbered step at `t`, with a state in
mid-step between each two of them. -/
def Completes (k : Nat) (m : EventState) (t : State) : Prop :=
  eventRun (k + 1) m = .next ⟨t, .start⟩ ∧ ∀ j < k, ∃ n, eventRun (j + 1) m = .next n ∧ n.phase ≠ .start

theorem completes_last {m : EventState} {t : State} (h : event m = .next ⟨t, .start⟩) : Completes 0 m t :=
  ⟨eventRun_one h, fun _ hj => absurd hj (Nat.not_lt_zero _)⟩

theorem completes_cons {m n : EventState} {t : State} {k : Nat} (h : event m = .next n)
    (hn : n.phase ≠ .start) (hk : Completes k n t) : Completes (k + 1) m t := by
  obtain ⟨hrun, hmid⟩ := hk
  refine ⟨(eventRun_succ _ h).trans hrun, fun j hj => ?_⟩
  cases j with
  | zero => exact ⟨n, eventRun_one h, hn⟩
  | succ j =>
    obtain ⟨n', hr, hp⟩ := hmid j (Nat.lt_of_succ_lt_succ hj)
    exact ⟨n', (eventRun_succ _ h).trans hr, hp⟩

/-- A frame is its command phase, then its data phase if it has one (R90, R122, R123). -/
theorem sendCommandWithData_completes {c : Command} {bs : List Byte} {s : State}
    (he : event ⟨s, .start⟩ = .next (commandEvent c bs s)) :
    ∃ k < 4, Completes k ⟨s, .start⟩ (sendCommandWithData c bs s) := by
  by_cases hb : bs = []
  · subst hb
    exact ⟨0, by decide, completes_last (he.trans (by rw [commandEvent_nil, sendCommandWithData_nil]))⟩
  have hsend : sendCommandWithData c bs s = attempt (.cmd (s.cfg.opc.code c)) (State.ctlForget c)
      (fun s => attempt .data (State.ctlForget c) (fun s => advance (dataPhase c bs s)) (commandPhase c s)) s := by
    simp [sendCommandWithData, hb]
  rcases commandEvent_cases c hb s with ⟨h0, h⟩ | ⟨h0, h⟩ <;> rw [h] at he
  · refine ⟨1, by decide, completes_cons he (by simp) (completes_last ?_)⟩
    rw [hsend, attempt_quiet h0]
    simp [event, attemptEvent]
  · exact ⟨0, by decide, completes_last (by rw [he, hsend, attempt_fault h0])⟩

/-- One round of a wait is its sample, and the poll delay if the line read busy (R124). -/
theorem waitIdle_completes {s : State} (he : event ⟨s, .start⟩ = .next (sampleEvent s)) :
    ∃ k < 4, Completes k ⟨s, .start⟩ (waitIdle s) := by
  rcases sampleEvent_cases s with ⟨h0, h1, h⟩ | ⟨h0, h1, h⟩ | ⟨h0, h⟩ <;> rw [h] at he
  · exact ⟨0, by decide, completes_last (by rw [he, waitIdle, attempt_quiet h0]; simp [h1, idleLevel])⟩
  · refine ⟨1, by decide, completes_cons he (by simp) (completes_last ?_)⟩
    rw [waitIdle, attempt_quiet h0]
    simp [event, h1, idleLevel]
  · exact ⟨0, by decide, completes_last (by rw [he, waitIdle, attempt_fault h0, id])⟩

/-- The reset pulse is two edges, each followed by its delay (R121). -/
theorem resetPulse_completes {s : State}
    (he : event ⟨s, .start⟩ = .next (attemptEvent (.rst .low) id lowEdge .pulseLow s)) :
    ∃ k < 4, Completes k ⟨s, .start⟩ (resetPulse s.cfg.resetLow s.cfg.resetSettle s) := by
  unfold resetPulse
  cases h0 : s.env.faultAt 0 with
  | true =>
    rw [attemptEvent_fault h0] at he
    exact ⟨0, by decide, completes_last (by rw [he, attempt_fault h0])⟩
  | false =>
    rw [attemptEvent_quiet h0] at he
    rw [attempt_quiet h0]
    generalize hu : (lowEdge { s with env := s.env.after 1 0 }).emit (.delay s.cfg.resetLow) = u
    have hlow : event ⟨lowEdge { s with env := s.env.after 1 0 }, .pulseLow⟩ = .next ⟨u, .pulseHigh⟩ := by
      simp [event, ← hu]
    have hhigh : event ⟨u, .pulseHigh⟩ = .next (attemptEvent (.rst .high) id highEdge .pulseSettle u) := rfl
    cases h1 : u.env.faultAt 0 with
    | true =>
      rw [attemptEvent_fault h1] at hhigh
      rw [attempt_fault h1]
      exact ⟨2, by decide, completes_cons he (by simp) (completes_cons hlow (by simp) (completes_last hhigh))⟩
    | false =>
      rw [attemptEvent_quiet h1] at hhigh
      rw [attempt_quiet h1]
      refine ⟨3, by decide, completes_cons he (by simp) (completes_cons hlow (by simp)
        (completes_cons hhigh (by simp) (completes_last ?_)))⟩
      simp [event, ← hu]

/-- A numbered step with a next state is one to four steps of the event level. -/
theorem step_completes {s t : State} (h : step s = .next t) : ∃ k < 4, Completes k ⟨s, .start⟩ t := by
  rcases bothLevels s with ⟨u, -, -, hs, he⟩ | ⟨c, bs, hs, he⟩ | ⟨hs, he⟩ | ⟨hs, he⟩ |
    ⟨r, hs, -⟩ | ⟨r, hs, -⟩ <;> rw [hs] at h <;> cases h
  · exact ⟨0, by decide, completes_last he⟩
  · exact sendCommandWithData_completes he
  · exact resetPulse_completes he
  · exact waitIdle_completes he

/-- A numbered step stops exactly as its first event does. -/
theorem step_stops_iff (s : State) : (∀ r, step s = .fault r ↔ event ⟨s, .start⟩ = .fault r) ∧
    (∀ r, step s = .refused r ↔ event ⟨s, .start⟩ = .refused r) := by
  rcases bothLevels s with ⟨u, -, -, hs, he⟩ | ⟨c, bs, hs, he⟩ | ⟨hs, he⟩ | ⟨hs, he⟩ |
    ⟨r, hs, he⟩ | ⟨r, hs, he⟩ <;> simp [hs, he]

/-- Settles O44: one event each (`event_oneEvent_or_silent`), one to four to a numbered step
(`step_completes`), the same stops (`step_stops_iff`). -/
theorem stepIsItsEvents : Obligations.StepIsItsEvents :=
  ⟨fun _ _ => event_oneEvent_or_silent, fun _ _ => step_completes, step_stops_iff⟩

end Sys2Proof.Machine

/-! ### Reset (10_state.md R42) -/

namespace Sys2Proof.Machine

/-- Settles O41: each register by its row of `State.resetWith`, the shadow by `Ctl.get_allUnknown`. -/
theorem resetStateHolds : Obligations.ResetStateHolds :=
  fun _ => ⟨rfl, rfl, rfl, rfl, rfl, rfl, Ctl.get_allUnknown, rfl⟩

/-- `Uninitialized` is not transient and SLEEP_DEPTH is loaded from CFG (R23, R26). -/
theorem resetWith_inv (c : Cfg) : (State.resetWith c).inv = true := by
  simp [State.inv, State.resetWith, St.transient]

/-- Settles O42: the sequencer by `resetWith_inv`; the other two speak of the empty trace. -/
theorem invariantsHoldAtReset : Obligations.InvariantsHoldAtReset :=
  fun c => ⟨resetWith_inv c, rfl, rfl, resetWith_inv Cfg.gk⟩

end Sys2Proof.Machine

/-! ### How a primitive ends (10_state.md R30, 60_exceptions.md R226) -/

namespace Sys2Proof.Machine

/-- The registers that no framer primitive writes before it ends, CFG and the script with them. -/
structure SameRegisters (s u : State) : Prop where
  cfg : u.cfg = s.cfg
  st : u.st = s.st
  profile : u.profile = s.profile
  bg : u.bg = s.bg
  sleepDepth : u.sleepDepth = s.sleepDepth
  seqPos : u.seqPos = s.seqPos
  script : u.script = s.script

/-- The three ends of a framer primitive: the advance of SEQ_POS (R30), the entry of R226, and a busy
reading, after which SEQ_POS stays (R224). -/
inductive PrimitiveEnd (s : State) : State → Prop
  | advance (u : State) : SameRegisters s u → PrimitiveEnd s (advance u)
  | fault (a : Action) (u : State) : SameRegisters s u → PrimitiveEnd s (transportFault a u)
  | stay (u : State) : SameRegisters s u → PrimitiveEnd s u

theorem resetPulse_end (low settle : Nat) (s : State) : PrimitiveEnd s (resetPulse low settle s) := by
  rcases resetPulse_cases low settle s with ⟨-, -, h⟩ | ⟨-, h⟩ | ⟨-, -, h⟩ <;> rw [h]
  · exact .advance _ ⟨rfl, rfl, rfl, rfl, rfl, rfl, rfl⟩
  · exact .fault _ _ ⟨rfl, rfl, rfl, rfl, rfl, rfl, rfl⟩
  · exact .fault _ _ ⟨rfl, rfl, rfl, rfl, rfl, rfl, rfl⟩

theorem waitIdle_end (s : State) : PrimitiveEnd s (waitIdle s) := by
  rcases waitIdle_cases s with ⟨-, -, h⟩ | ⟨-, -, h⟩ | ⟨-, h⟩ <;> rw [h]
  · exact .advance _ ⟨rfl, rfl, rfl, rfl, rfl, rfl, rfl⟩
  · exact .stay _ ⟨rfl, rfl, rfl, rfl, rfl, rfl, rfl⟩
  · exact .fault _ _ ⟨rfl, rfl, rfl, rfl, rfl, rfl, rfl⟩

theorem sendCommandWithData_end (c : Command) (bs : List Byte) (s : State) :
    PrimitiveEnd s (sendCommandWithData c bs s) := by
  by_cases hb : bs = []
  · rw [hb, sendCommandWithData_nil]
    rcases sendCommand_cases c s with ⟨-, h⟩ | ⟨-, h⟩ <;> rw [h]
    · exact .advance _ ⟨rfl, rfl, rfl, rfl, rfl, rfl, rfl⟩
    · exact .fault _ _ ⟨rfl, rfl, rfl, rfl, rfl, rfl, rfl⟩
  · rcases sendCommandWithData_cases c hb s with ⟨-, -, h⟩ | ⟨-, h⟩ | ⟨-, -, h⟩ <;> rw [h]
    · exact .advance _ ⟨rfl, rfl, rfl, rfl, rfl, rfl, rfl⟩
    · exact .fault _ _ ⟨rfl, rfl, rfl, rfl, rfl, rfl, rfl⟩
    · exact .fault _ _ ⟨rfl, rfl, rfl, rfl, rfl, rfl, rfl⟩

/-- Whatever its end, a primitive keeps the configuration registers and consumes no request (R29). -/
theorem PrimitiveEnd.keeps {s t : State} (h : PrimitiveEnd s t) :
    t.cfg = s.cfg ∧ t.profile = s.profile ∧ t.bg = s.bg ∧ t.sleepDepth = s.sleepDepth ∧
      t.script = s.script := by
  cases h with
  | advance u hu | fault a u hu | stay u hu =>
    simp [hu.cfg, hu.profile, hu.bg, hu.sleepDepth, hu.script]

/-- Step P0 keeps the configuration registers. -/
theorem compareProfile_keeps (p : Profile) (s : State) :
    (compareProfile p s).cfg = s.cfg ∧ (compareProfile p s).profile = s.profile ∧
      (compareProfile p s).bg = s.bg ∧ (compareProfile p s).sleepDepth = s.sleepDepth := by
  unfold compareProfile
  split <;> simp

end Sys2Proof.Machine

/-! ### The frame of a controller command (40_transport_framer.md R122, R123) -/

namespace Sys2Proof.Machine

/-- A command leaves the reset line and the samples alone. -/
theorem sendCommandWithData_rst_busy_samples (c : Command) (bs : List Byte) (s : State) :
    (sendCommandWithData c bs s).rst = s.rst ∧ (sendCommandWithData c bs s).env.busy = s.env.busy ∧
      (sendCommandWithData c bs s).env.samples = s.env.samples := by
  by_cases hb : bs = []
  · rw [hb, sendCommandWithData_nil]
    rcases sendCommand_cases c s with ⟨-, h⟩ | ⟨-, h⟩ <;> simp [h, Env.after]
  · rcases sendCommandWithData_cases c hb s with ⟨-, -, h⟩ | ⟨-, h⟩ | ⟨-, -, h⟩ <;> simp [h, Env.after]

/-- The shadow after a command: what was sent is recorded, or a fault makes its entry unknown (R38). -/
theorem sendCommandWithData_ctl (c : Command) (bs : List Byte) (s : State) :
    (sendCommandWithData c bs s).ctl = s.ctl.sent s.cfg c bs ∨
      (sendCommandWithData c bs s).ctl = s.ctl.put c .unknown := by
  by_cases hb : bs = []
  · rw [hb, sendCommandWithData_nil]
    rcases sendCommand_cases c s with ⟨-, h⟩ | ⟨-, h⟩ <;> simp [h]
  · rcases sendCommandWithData_cases c hb s with ⟨-, -, h⟩ | ⟨-, h⟩ | ⟨-, -, h⟩ <;> simp [h]

/-- Settles O16: the registers by how a primitive ends, the trace by `growsTo_sendCommandWithData`, the
other shadow entries by the two ways the shadow can change. -/
theorem commandsLeaveUnchanged : Obligations.CommandsLeaveUnchanged := by
  intro s t c bs h
  rw [exec_command] at h
  cases h
  generalize (if c.bare then [] else bs) = sent
  obtain ⟨hcfg, hprofile, hbg, hdepth, hscript⟩ := (sendCommandWithData_end c sent s).keeps
  obtain ⟨hrst, hbusy, hsamples⟩ := sendCommandWithData_rst_busy_samples c sent s
  obtain ⟨new, -, htrace, -⟩ := growsTo_sendCommandWithData c sent s
  refine ⟨hcfg, hprofile, hbg, hdepth, hrst, hscript, hbusy, hsamples, ⟨new, htrace⟩, ?_⟩
  intro e he hreset hsleep
  rcases sendCommandWithData_ctl c sent s with hctl | hctl <;> rw [hctl]
  · exact Ctl.get_sent_other _ _ _ he.symm hreset fun ⟨hc, _, hw⟩ => hsleep ⟨hc, hw⟩
  · exact Ctl.get_put_other _ _ he.symm

end Sys2Proof.Machine

/-! ### What an accepted request does (42_panel_state_machine.md R170, R171) -/

namespace Sys2Proof.Machine

@[simp] theorem start_profile (op : Op) (s : State) : (start op s).profile = s.profile := by rw [start_frame]
@[simp] theorem start_bg (op : Op) (s : State) : (start op s).bg = s.bg := by rw [start_frame]
@[simp] theorem start_sleepDepth (op : Op) (s : State) : (start op s).sleepDepth = s.sleepDepth := by
  rw [start_frame]
@[simp] theorem start_rst (op : Op) (s : State) : (start op s).rst = s.rst := by rw [start_frame]
@[simp] theorem start_dc (op : Op) (s : State) : (start op s).dc = s.dc := by rw [start_frame]
@[simp] theorem start_script (op : Op) (s : State) : (start op s).script = s.script := by rw [start_frame]

/-- What a request does once it has passed its checks; `exec_eq_request` ties it to `exec`. A command is no
request and an always rejected request has no body. -/
def requestBody : Instr → State → State
  | .construct => fun s => start .construct
      { s with profile := s.cfg.profileInit, bg := s.cfg.bgInit, sleepDepth := s.cfg.sleepDepthCfg }
  | .wake => start .wake
  | .sleep => start .sleep
  | .update buf => start (.update buf)
  | .display => start .display
  | .updateAndDisplay buf => start (.updateAndDisplay buf)
  | .setRefreshProfile p => start (.setRefreshProfile p)
  | .setBackgroundColor c => fun s => { s with bg := c }.answer .ok
  | .width => State.answer (.okValue 122)
  | .height => State.answer (.okValue 250)
  | _ => id

/-- The meaning of a host request. -/
theorem exec_eq_request {i : Instr} (h : i.command? = none) (s : State) :
    exec i s = request i (requestBody i) s := by
  cases i <;> simp only [Instr.command?, reduceCtorEq] at h <;> rfl

/-- A request presented and given a next state was accepted or rejected (R171). -/
theorem exec_request_next {i : Instr} {s t : State} (hi : i.command? = none) (h : exec i s = .next t) :
    (∃ why, t = reject why s) ∨ (precheck i s.st = none ∧ t = requestBody i s) := by
  rw [exec_eq_request hi] at h
  rcases request_cases i (requestBody i) s with ⟨_, _, _, h'⟩ | ⟨_, _, h'⟩ | ⟨_, _, why, _, h'⟩ |
    ⟨_, _, hchecks, h'⟩ <;> rw [h'] at h <;> cases h
  · exact .inl ⟨why, rfl⟩
  · exact .inr ⟨hchecks, rfl⟩

/-- The frame of an accepted request. -/
theorem requestBody_frame (i : Instr) (s : State) :
    (requestBody i s).cfg = s.cfg ∧ (requestBody i s).rst = s.rst ∧ (requestBody i s).dc = s.dc ∧
      (requestBody i s).ctl = s.ctl ∧ (requestBody i s).trace = s.trace ∧ (requestBody i s).env = s.env ∧
      (requestBody i s).script = s.script := by
  cases i <;> simp [requestBody]

/-- The configuration registers of an accepted request: CONSTRUCT loads all three from CFG,
SET_BACKGROUND_COLOR writes BG (R29). -/
theorem requestBody_registers (i : Instr) (s : State) :
    (i = .construct ∧ (requestBody i s).profile = s.cfg.profileInit ∧ (requestBody i s).bg = s.cfg.bgInit ∧
      (requestBody i s).sleepDepth = s.cfg.sleepDepthCfg) ∨
    ((requestBody i s).profile = s.profile ∧ (requestBody i s).sleepDepth = s.sleepDepth ∧
      ((requestBody i s).bg = s.bg ∨ ∃ c, i = .setBackgroundColor c ∧ (requestBody i s).bg = c)) := by
  cases i <;> simp [requestBody]

/-- The configuration registers of a request presented: those of its body, or kept by a rejection. -/
theorem exec_request_registers {i : Instr} {s t : State} (hi : i.command? = none) (h : exec i s = .next t) :
    (i = .construct ∧ t.profile = s.cfg.profileInit ∧ t.bg = s.cfg.bgInit ∧
      t.sleepDepth = s.cfg.sleepDepthCfg) ∨
    (t.profile = s.profile ∧ t.sleepDepth = s.sleepDepth ∧
      (t.bg = s.bg ∨ ∃ c, i = .setBackgroundColor c ∧ t.bg = c)) := by
  rcases exec_request_next hi h with ⟨why, rfl⟩ | ⟨-, rfl⟩
  · exact .inr ⟨rfl, rfl, .inl rfl⟩
  · exact requestBody_registers i s

/-- Settles O31: a rejection only answers, an accepted request has the frame of its body; the three
registers by `exec_request_registers`. -/
theorem requestsLeaveUnchanged : Obligations.RequestsLeaveUnchanged := by
  intro s t i hi h
  have hframe : t.cfg = s.cfg ∧ t.rst = s.rst ∧ t.dc = s.dc ∧ t.ctl = s.ctl ∧ t.trace = s.trace ∧
      t.env = s.env ∧ t.script = s.script := by
    rcases exec_request_next hi h with ⟨why, rfl⟩ | ⟨-, rfl⟩
    · exact ⟨rfl, rfl, rfl, rfl, rfl, rfl, rfl⟩
    · exact requestBody_frame i s
  obtain ⟨hcfg, hrst, hdc, hctl, htrace, henv, hscript⟩ := hframe
  refine ⟨hcfg, hrst, hdc, hctl, htrace, henv, hscript, ?_⟩
  rcases exec_request_registers hi h with ⟨hc, -⟩ | ⟨hprofile, hdepth, hbg⟩
  · exact ⟨fun hne => absurd hc hne, fun hne => absurd hc hne⟩
  · refine ⟨fun _ => ⟨hprofile, hdepth⟩, fun _ hne => ?_⟩
    rcases hbg with hbg | ⟨c, hc, -⟩
    · exact hbg
    · exact absurd hc (hne c)

/-- Every step keeps the three configuration registers, or is P2, or presents a request that writes them. -/
theorem step_registers {s t : State} (h : step s = .next t) :
    (t.profile = s.profile ∧ t.bg = s.bg ∧ t.sleepDepth = s.sleepDepth) ∨
    (∃ p, s.seqPos = .running (.setRefreshProfile p) 2 ∧ t.profile = p ∧ t.bg = s.bg ∧
      t.sleepDepth = s.sleepDepth) ∨
    (∃ r rest, s.seqPos = .ready ∧ s.script = r :: rest ∧
      exec (decodeRequest r.word r.buf) { s with script := rest } = .next t) := by
  have hprimitive (hend : PrimitiveEnd s t) :
      t.profile = s.profile ∧ t.bg = s.bg ∧ t.sleepDepth = s.sleepDepth := by
    obtain ⟨-, hprofile, hbg, hdepth, -⟩ := hend.keeps
    exact ⟨hprofile, hbg, hdepth⟩
  rcases step_cases h with ⟨-, -, rfl⟩ | hrequest | ⟨op, -, -, rfl⟩ | ⟨op, k, l, -, -, -, rfl⟩ |
    ⟨op, k, l, c, bs, -, -, -, rfl⟩ | ⟨p, -, rfl⟩ | ⟨p, hp, rfl⟩
  · exact .inl ⟨rfl, rfl, rfl⟩
  · exact .inr (.inr hrequest)
  · exact .inl (hprimitive (resetPulse_end ..))
  · exact .inl (hprimitive (waitIdle_end s))
  · exact .inl (hprimitive (sendCommandWithData_end ..))
  · obtain ⟨-, hkept⟩ := compareProfile_keeps p s
    exact .inl hkept
  · exact .inr (.inl ⟨p, hp, by simp [loadProfile]⟩)

/-- Settles O49: of the steps that write a register (`step_registers`), P2 writes PROFILE and a request what
`exec_request_registers` says. -/
theorem configurationRegisterWriters : Obligations.ConfigurationRegisterWriters := by
  intro s t h
  rcases step_registers h with ⟨hprofile, hbg, hdepth⟩ | ⟨p, hp, hprofile, hbg, hdepth⟩ |
    ⟨r, rest, hp, hs, hx⟩
  · exact ⟨fun hne => absurd hprofile hne, fun hne => absurd hbg hne, fun hne => absurd hdepth hne⟩
  · exact ⟨fun _ => .inl ⟨p, hp, hprofile⟩, fun hne => absurd hbg hne, fun hne => absurd hdepth hne⟩
  · rcases exec_request_registers (decodeRequest_command _ _) hx with ⟨hi, hprofile, hbg, hdepth⟩ |
      ⟨hprofile, hdepth, hbg⟩
    · exact ⟨fun _ => .inr ⟨r, rest, hp, hs, hi, hprofile⟩, fun _ => ⟨r, rest, hp, hs, .inl ⟨hi, hbg⟩⟩,
        fun _ => ⟨r, rest, hp, hs, hi, hdepth⟩⟩
    · refine ⟨fun hne => absurd hprofile hne, fun hne => ?_, fun hne => absurd hdepth hne⟩
      rcases hbg with hbg | hcolor
      · exact absurd hbg hne
      · exact ⟨r, rest, hp, hs, .inr hcolor⟩

end Sys2Proof.Machine

/-! ### The invariant of the sequencer (10_state.md R21, R23, R26, 42_panel_state_machine.md R178) -/

namespace Sys2Proof.Machine

theorem inv_iff_of_ready {s : State} (hp : s.seqPos = .ready) :
    s.inv = true ↔ s.st.transient = false ∧ s.sleepDepth = s.cfg.sleepDepthCfg := by
  simp [State.inv, hp]

theorem inv_iff_of_running {s : State} {op : Op} {k : Nat} (hp : s.seqPos = .running op k) :
    s.inv = true ↔ ∃ l, (stepsOf op)[k]? = some l ∧ s.st = stAt l ∧
      operandChecked op k s.profile = true ∧ s.sleepDepth = s.cfg.sleepDepthCfg := by
  cases hl : (stepsOf op)[k]? <;> simp [State.inv, hp, hl, and_assoc]

/-- SLEEP_DEPTH is the configured one, whether or not a request runs (R26). -/
theorem sleepDepth_of_inv {s : State} (h : s.inv = true) : s.sleepDepth = s.cfg.sleepDepthCfg := by
  simp only [State.inv, Bool.and_eq_true, beq_iff_eq] at h
  exact h.2

/-! #### ST along the step lists -/

/-- Completing `l` and coming to `l'` takes ST from its value at the one to its value at the other. -/
abbrev StLinked (l l' : StepLabel) : Prop := stEntering l' (stLeaving l (stAt l)) = stAt l'

/-- Along every step list ST has the value of each step in turn (R178). -/
theorem stepsOf_linked (op : Op) : (stepsOf op).IsChain StLinked := by
  cases op <;> simp only [stepsOf] <;> decide

theorem stLinked_of_succ {op : Op} {k : Nat} {l l' : StepLabel} (hl : (stepsOf op)[k]? = some l)
    (hl' : (stepsOf op)[k + 1]? = some l') : StLinked l l' := by
  obtain ⟨_, rfl⟩ := List.getElem?_eq_some_iff.mp hl
  obtain ⟨hk, rfl⟩ := List.getElem?_eq_some_iff.mp hl'
  exact List.isChain_iff_getElem.mp (stepsOf_linked op) k hk

/-- At the end of every step list ST is not transient (R23). -/
theorem stepsOf_getLast (op : Op) :
    ∀ l ∈ (stepsOf op).getLast?, (stLeaving l (stAt l)).transient = false := by
  cases op <;> simp only [stepsOf] <;> decide

theorem not_transient_of_last {op : Op} {k : Nat} {l : StepLabel} (hl : (stepsOf op)[k]? = some l)
    (hlast : (stepsOf op)[k + 1]? = none) : (stLeaving l (stAt l)).transient = false := by
  have hk := (List.getElem?_eq_some_iff.mp hl).1
  have hlen := List.getElem?_eq_none_iff.mp hlast
  have hlen : (stepsOf op).length - 1 = k := by omega
  exact stepsOf_getLast op l (by rw [List.getLast?_eq_getElem?, hlen, hl]; rfl)

/-- An operand checked at a step but P0 is checked at the next: only P0 has yet to compare the profile
(R67, R187). -/
theorem operandChecked_succ {op : Op} {k : Nat} {l : StepLabel} {current : Profile}
    (hl : (stepsOf op)[k]? = some l) (hne : l ≠ .p0) (h : operandChecked op k current = true) :
    operandChecked op (k + 1) current = true := by
  cases op with
  | setRefreshProfile p =>
    have hk : k ≠ 0 := by rintro rfl; simp [stepsOf, profileSteps] at hl; exact hne hl.symm
    simpa [operandChecked, hk] using h
  | _ => exact h

/-! #### The ends of a step -/

/-- The advance of SEQ_POS gives the invariant, if the operand is checked where there is a next step. -/
theorem inv_advance {u : State} {op : Op} {k : Nat} {l : StepLabel} (hp : u.seqPos = .running op k)
    (hl : (stepsOf op)[k]? = some l) (hst : u.st = stAt l)
    (hop : (stepsOf op)[k + 1]? ≠ none → operandChecked op (k + 1) u.profile = true)
    (hd : u.sleepDepth = u.cfg.sleepDepthCfg) : (advance u).inv = true := by
  cases hl' : (stepsOf op)[k + 1]? with
  | some l' =>
    rw [advance_running hp hl hl', inv_iff_of_running rfl]
    exact ⟨l', hl', by rw [hst]; exact stLinked_of_succ hl hl', hop (by simp [hl']), hd⟩
  | none =>
    rw [advance_last hp hl hl', inv_iff_of_ready rfl]
    exact ⟨by simpa [hst] using not_transient_of_last hl hl', hd⟩

/-- `Faulted` is not transient. -/
theorem inv_transportFault (a : Action) {u : State} (hd : u.sleepDepth = u.cfg.sleepDepthCfg) :
    (transportFault a u).inv = true :=
  (inv_iff_of_ready rfl).mpr ⟨rfl, hd⟩

theorem inv_of_sameRegisters {s u : State} (h : SameRegisters s u) : u.inv = s.inv := by
  simp only [State.inv, h.seqPos, h.st, h.profile, h.sleepDepth, h.cfg]

/-- A primitive performed at a step but P0 keeps the invariant, whichever way it ends. -/
theorem PrimitiveEnd.inv {s t : State} {op : Op} {k : Nat} {l : StepLabel} (hend : PrimitiveEnd s t)
    (hp : s.seqPos = .running op k) (hl : (stepsOf op)[k]? = some l) (hne : l ≠ .p0)
    (h : s.inv = true) : t.inv = true := by
  have hd := sleepDepth_of_inv h
  cases hend with
  | advance u hu =>
    obtain ⟨l', hl', hst, hop, -⟩ := (inv_iff_of_running hp).mp h
    obtain rfl : l = l' := Option.some.inj (hl.symm.trans hl')
    refine inv_advance (hu.seqPos.trans hp) hl (hu.st.trans hst) (fun _ => ?_) (by rw [hu.sleepDepth, hu.cfg, hd])
    rw [hu.profile]
    exact operandChecked_succ hl hne hop
  | fault a u hu => exact inv_transportFault a (by rw [hu.sleepDepth, hu.cfg, hd])
  | stay t hu => rw [inv_of_sameRegisters hu, h]

/-- P0 returns with ST = `Idle`, or goes on with a profile that differs (R187). -/
theorem inv_compareProfile {s : State} {p : Profile} (hp : s.seqPos = .running (.setRefreshProfile p) 0)
    (h : s.inv = true) : (compareProfile p s).inv = true := by
  obtain ⟨l, hl, hst, -, hd⟩ := (inv_iff_of_running hp).mp h
  obtain rfl : l = .p0 := Option.some.inj hl.symm
  unfold compareProfile
  split
  · exact (inv_iff_of_ready rfl).mpr ⟨by simp [hst, stAt, St.transient], hd⟩
  · next hne => exact inv_advance hp hl hst (fun _ => by simpa [operandChecked] using hne) hd

/-- P2 is the last step of its list. -/
theorem inv_loadProfile {s : State} {p : Profile} (hp : s.seqPos = .running (.setRefreshProfile p) 2)
    (h : s.inv = true) : (loadProfile p s).inv = true := by
  obtain ⟨l, hl, hst, -, hd⟩ := (inv_iff_of_running hp).mp h
  exact inv_advance hp hl hst (fun hnext => absurd rfl hnext) hd

/-! #### Requests -/

/-- A request accepted stands at the first step of its list with the ST of that step. -/
theorem inv_start (op : Op) (l : StepLabel) {u : State} (hl : (stepsOf op)[0]? = some l)
    (hst : stEntering l u.st = stAt l) (hop : operandChecked op 0 u.profile = true)
    (hd : u.sleepDepth = u.cfg.sleepDepthCfg) : (start op u).inv = true := by
  have hstart : start op u = { u with st := stEntering l u.st, seqPos := .running op 0 } := by
    simp [start, hl]
  rw [hstart, inv_iff_of_running rfl]
  exact ⟨l, hl, hst, hop, hd⟩

/-- A request that passes its checks is legal and has a buffer of `FB_LEN` bytes if it has one (R171). -/
theorem legal_of_precheck {i : Instr} {st : St} (h : precheck i st = none) :
    legality i st ≠ .no ∧ badLength i = false := by
  unfold precheck at h
  split_ifs at h with _ _ hlegal hlength
  exact ⟨hlegal, by simpa using hlength⟩

theorem eq_idle_of_idleOnly {st : St} (h : idleOnly st ≠ .no) : st = .idle := by
  by_contra hne
  exact h (if_neg hne)

/-- The body of an accepted request keeps the invariant: the lists that begin with I0 or A0 set ST, the
other two are legal in `Idle` only (R172, R178). -/
theorem inv_requestBody {i : Instr} {s : State} (hp : s.seqPos = .ready) (hchecks : precheck i s.st = none)
    (h : s.inv = true) : (requestBody i s).inv = true := by
  have hd := sleepDepth_of_inv h
  obtain ⟨hlegal, hlength⟩ := legal_of_precheck hchecks
  cases i with
  | construct => exact inv_start .construct .i0 rfl rfl rfl rfl
  | wake => exact inv_start .wake .i0 rfl rfl rfl hd
  | display => exact inv_start .display .a0 rfl rfl rfl hd
  | update buf =>
    exact inv_start (.update buf) .i0 rfl rfl (by simpa [badLength, operandChecked] using hlength) hd
  | updateAndDisplay buf =>
    exact inv_start (.updateAndDisplay buf) .i0 rfl rfl (by simpa [badLength, operandChecked] using hlength) hd
  | sleep => exact inv_start .sleep .s0 rfl (eq_idle_of_idleOnly hlegal) rfl hd
  | setRefreshProfile p =>
    exact inv_start (.setRefreshProfile p) .p0 rfl (eq_idle_of_idleOnly hlegal) rfl hd
  | setBackgroundColor | width | height => exact (inv_iff_of_ready hp).mpr ((inv_iff_of_ready hp).mp h)
  | _ => exact h

/-- A request presented between requests is accepted or rejected, and keeps the invariant (R170, R171). -/
theorem exec_request_inv {i : Instr} {s : State} (hi : i.command? = none) (hp : s.seqPos = .ready)
    (h : s.inv = true) : ∃ t, exec i s = .next t ∧ t.inv = true := by
  obtain ⟨ht, hd⟩ := (inv_iff_of_ready hp).mp h
  rw [exec_eq_request hi]
  cases hc : precheck i s.st with
  | some why => exact ⟨_, request_rejected hp ht hc, (inv_iff_of_ready hp).mpr ⟨ht, hd⟩⟩
  | none => exact ⟨_, request_accepted hp ht hc, inv_requestBody hp hc h⟩

/-! #### The step -/

/-- A running request's step is a primitive, P0 or P2, and never a stop of the model. -/
theorem step_at_label {s : State} {op : Op} {k : Nat} {l : StepLabel} (hp : s.seqPos = .running op k)
    (hl : (stepsOf op)[k]? = some l) :
    (l ≠ .p0 ∧ ∃ t, step s = .next t ∧ PrimitiveEnd s t) ∨
    (∃ p, s.seqPos = .running (.setRefreshProfile p) 0 ∧ step s = .next (compareProfile p s)) ∨
    (∃ p, s.seqPos = .running (.setRefreshProfile p) 2 ∧ step s = .next (loadProfile p s)) := by
  cases l
  case i0 =>
    exact .inl ⟨by simp, _, step_reset hp hl, resetPulse_end ..⟩
  case i1 | i3 | i13 | a2 | s0 =>
    exact .inl ⟨by simp, _, step_wait hp hl (by decide), waitIdle_end s⟩
  case w4 =>
    obtain ⟨buf, hb, -⟩ := buf_of_w4 hl
    exact .inl ⟨by simp, _, step_command hp hl (by rw [commandOf, hb]; rfl), sendCommandWithData_end ..⟩
  case p0 =>
    obtain ⟨p, rfl, hk⟩ := profile_of_p hl (.inl rfl)
    obtain rfl : k = 0 := by simpa using hk
    exact .inr (.inl ⟨p, hp, step_compare hp⟩)
  case p1 =>
    obtain ⟨p, rfl, -⟩ := profile_of_p hl (.inr (.inl rfl))
    exact .inl ⟨by simp, _, step_command hp hl rfl, sendCommandWithData_end ..⟩
  case p2 =>
    obtain ⟨p, rfl, hk⟩ := profile_of_p hl (.inr (.inr rfl))
    obtain rfl : k = 2 := by simpa using hk
    exact .inr (.inr ⟨p, hp, step_load hp⟩)
  all_goals exact .inl ⟨by simp, _, step_command hp hl rfl, sendCommandWithData_end ..⟩

/-- Under the invariant there is a next state, and it meets the invariant. -/
theorem step_next_inv {s : State} (h : s.inv = true) : ∃ t, step s = .next t ∧ t.inv = true := by
  cases hp : s.seqPos with
  | ready =>
    cases hs : s.script with
    | nil => exact ⟨s, step_ready_nil hp hs, h⟩
    | cons r rest =>
      rw [step_ready_cons hp hs]
      -- the script, shorter by the request taken, is no part of the invariant
      exact exec_request_inv (decodeRequest_command _ _) hp h
  | running op k =>
    obtain ⟨l, hl, -⟩ := (inv_iff_of_running hp).mp h
    rcases step_at_label hp hl with ⟨hne, t, ht, hend⟩ | ⟨p, hp0, ht⟩ | ⟨p, hp2, ht⟩
    · exact ⟨t, ht, hend.inv hp hl hne h⟩
    · exact ⟨_, ht, inv_compareProfile hp0 h⟩
    · exact ⟨_, ht, inv_loadProfile hp2 h⟩

/-- Settles O43: `step_next_inv`, the next state being the only one. -/
theorem stepKeepsInvariant : Obligations.StepKeepsInvariant := by
  intro s h
  obtain ⟨t, ht, hinv⟩ := step_next_inv h
  refine ⟨⟨t, ht⟩, fun u hu => ?_⟩
  rw [ht] at hu
  cases hu
  exact hinv

end Sys2Proof.Machine

/-! ### The shadow follows the trace (10_state.md R37, R38) -/

namespace Sys2Proof.Machine

/-- Every step keeps CFG (R33). -/
theorem step_cfg {s t : State} (h : step s = .next t) : t.cfg = s.cfg := by
  rcases step_cases h with ⟨-, -, rfl⟩ | ⟨r, rest, -, -, hx⟩ | ⟨op, -, -, rfl⟩ | ⟨op, k, l, -, -, -, rfl⟩ |
    ⟨op, k, l, c, bs, -, -, -, rfl⟩ | ⟨p, -, rfl⟩ | ⟨p, -, rfl⟩
  · rfl
  · exact (exec_request_silent (decodeRequest_command _ _) hx).1
  · exact (resetPulse_end ..).keeps.1
  · exact (waitIdle_end s).keeps.1
  · exact (sendCommandWithData_end ..).keeps.1
  · exact (compareProfile_keeps p s).1
  · simp [loadProfile]

/-- The events do not begin with a data phase, sent or faulted: they say nothing of the frame before. -/
def BeginsAfresh (es : List Event) : Prop :=
  (∀ bs rest, es ≠ .data bs :: rest) ∧ ∀ rest, es ≠ .fault .data :: rest

theorem BeginsAfresh.append {es new : List Event} (h : BeginsAfresh es) (hnew : BeginsAfresh new) :
    BeginsAfresh (es ++ new) := by
  cases es with
  | nil => exact hnew
  | cons e es => exact ⟨fun bs rest heq => h.1 bs es (by simp_all), fun rest heq => h.2 es (by simp_all)⟩

/-- Before such events a command phase is a whole frame. -/
theorem Ctl.follow_cmd (cfg : Cfg) (t : Ctl) (b : Byte) {es : List Event} (h : BeginsAfresh es) :
    Ctl.follow cfg t (.cmd b :: es) = Ctl.follow cfg (Ctl.follow cfg t [.cmd b]) es := by
  obtain ⟨hdata, hfault⟩ := h
  rw [Ctl.follow.eq_5 cfg t b es hdata hfault]
  rfl

/-- The shadow of events continued by such events: no frame straddles the join. -/
theorem Ctl.follow_append (cfg : Cfg) (t : Ctl) (tr : List Event) {new : List Event}
    (hnew : BeginsAfresh new) : Ctl.follow cfg t (tr ++ new) = Ctl.follow cfg (Ctl.follow cfg t tr) new := by
  induction t, tr using Ctl.follow.induct cfg with
  | case1 t => rfl
  | case2 t es ih => exact ih
  | case3 t b bs es ih => exact ih
  | case4 t b es ih => exact ih
  | case5 t b es hdata hfault ih =>
    have hes : BeginsAfresh es := ⟨hdata, hfault⟩
    rw [List.cons_append, Ctl.follow_cmd cfg t b (hes.append hnew), Ctl.follow_cmd cfg t b hes]
    exact ih
  | case6 t b es ih => exact ih
  | case7 t e es hlow hdata hfault hcmd hcmdFault ih =>
    have skip (es : List Event) : Ctl.follow cfg t (e :: es) = Ctl.follow cfg t es :=
      Ctl.follow.eq_7 cfg t e es hlow (fun b _ _ h _ => hcmd b h) (fun b _ h _ => hcmd b h) hcmd hcmdFault
    rw [List.cons_append, skip, skip, ih]

/-- A step appends nothing or events that begin afresh, and what they say of the shadow before is what the
step does to it. -/
theorem step_follows {s t : State} (ho : s.cfg.opc.Injective) (h : step s = .next t) :
    ∃ new, BeginsAfresh new ∧ t.trace = s.trace ++ new ∧ t.ctl = Ctl.follow s.cfg s.ctl new := by
  cases step_effect h with
  | silent htrace hctl => exact ⟨[], by simp [BeginsAfresh], by simpa using htrace, hctl⟩
  | pulse htrace hctl | pulseFaultLow htrace hctl | pulseFaultHigh htrace hctl | idle htrace hctl
  | busy htrace hctl | sampleFault htrace hctl =>
    exact ⟨_, by simp [BeginsAfresh], htrace, hctl⟩
  | command op k l c _ _ _ htrace hctl | commandData op k l c bs _ _ _ _ htrace hctl
  | commandFault op k l c bs _ _ _ htrace hctl | dataFault op k l c bs _ _ _ _ htrace hctl =>
    exact ⟨_, by simp [BeginsAfresh], htrace, by simp [hctl, Ctl.follow, decodeCommandByte_code ho]⟩

/-- Settles O51: what a step appends is followed from the shadow of the trace before (`step_follows`,
`Ctl.follow_append`). -/
theorem shadowFollowsTrace : Obligations.ShadowFollowsTrace := by
  intro s t ho hs h
  obtain ⟨new, hnew, htrace, hctl⟩ := step_follows ho h
  calc t.ctl = Ctl.follow s.cfg s.ctl new := hctl
    _ = Ctl.follow s.cfg (shadowOf s.cfg s.trace) new := by rw [← hs]
    _ = shadowOf s.cfg (s.trace ++ new) := (Ctl.follow_append _ _ _ hnew).symm
    _ = shadowOf t.cfg t.trace := by rw [step_cfg h, htrace]

end Sys2Proof.Machine

/-! ### Nothing reads BG or the shadow (10_state.md R25, R37) -/

namespace Sys2Proof.Machine

/-- The state with other values in what no rule reads. -/
def State.withUnread (bg : Color) (ctl : Ctl) (s : State) : State := { s with bg := bg, ctl := ctl }

theorem sameButUnread_iff {s t : State} : SameButUnread s t ↔ ∃ bg ctl, t = s.withUnread bg ctl :=
  ⟨fun h => ⟨t.bg, t.ctl, h⟩, by rintro ⟨bg, ctl, rfl⟩; rfl⟩

/-- An operation whose result depends on BG and the shadow in BG and the shadow alone. -/
def Blind (f : State → State) : Prop := ∀ bg ctl s, SameButUnread (f s) (f (s.withUnread bg ctl))

theorem Blind.sameButUnread {f : State → State} (hf : Blind f) {s t : State} (h : SameButUnread s t) :
    SameButUnread (f s) (f t) := by
  obtain ⟨bg, ctl, rfl⟩ := sameButUnread_iff.mp h
  exact hf bg ctl s

theorem blind_id : Blind id := fun _ _ _ => rfl

/-- Blind operations compose. -/
theorem blind_comp {f g : State → State} (hf : Blind f) (hg : Blind g) : Blind (fun s => f (g s)) :=
  fun bg ctl s => hf.sameButUnread (hg bg ctl s)

/-! #### The operations -/

theorem blind_emit (e : Event) : Blind (State.emit e) := fun _ _ _ => rfl
theorem blind_answer (r : Result) : Blind (State.answer r) := fun _ _ _ => rfl
theorem blind_ctlWrite (c : Command) (bs : List Byte) : Blind (State.ctlWrite c bs) := fun _ _ _ => rfl
theorem blind_ctlForget (c : Command) : Blind (State.ctlForget c) := fun _ _ _ => rfl
theorem blind_commandPhase (c : Command) : Blind (commandPhase c) := fun _ _ _ => rfl
theorem blind_dataPhase (c : Command) (bs : List Byte) : Blind (dataPhase c bs) := fun _ _ _ => rfl
theorem blind_lowEdge : Blind lowEdge := fun _ _ _ => rfl
theorem blind_highEdge : Blind highEdge := fun _ _ _ => rfl
theorem blind_sample : Blind sample := fun _ _ _ => rfl
theorem blind_finish : Blind finish := fun _ _ _ => rfl
theorem blind_transportFault (a : Action) : Blind (transportFault a) := fun _ _ _ => rfl

/-- `advance` looks at SEQ_POS and ST. -/
theorem blind_advance : Blind advance := by
  intro bg ctl s
  rcases advance_cases s with ⟨hp, h⟩ | ⟨op, k, l, hp, hl, h⟩ | ⟨op, k, hp, hl, h⟩ <;> rw [h]
  · rw [advance_ready (s := s.withUnread bg ctl) hp]
    rfl
  · simp only [advance, State.withUnread, hp, hl]
    rfl
  · simp only [advance, State.withUnread, hp, hl]
    rfl

/-- An action decided by the environment alone, whichever way it goes on. -/
theorem blind_attempt (a : Action) {lost ok : State → State} (hlost : Blind lost) (hok : Blind ok) :
    Blind (attempt a lost ok) := by
  intro bg ctl s
  cases h : s.env.faultAt 0 with
  | false =>
    rw [attempt_quiet h, attempt_quiet (s := s.withUnread bg ctl) h]
    exact hok bg ctl { s with env := s.env.after 1 0 }
  | true =>
    rw [attempt_fault h, attempt_fault (s := s.withUnread bg ctl) h]
    exact (blind_transportFault a).sameButUnread (hlost bg ctl { s with env := s.env.after 1 0 })

theorem blind_resetPulse (low settle : Nat) : Blind (resetPulse low settle) :=
  have hhigh : Blind fun s => advance ((highEdge s).emit (.delay settle)) :=
    blind_comp blind_advance (blind_comp (blind_emit _) blind_highEdge)
  have hlow : Blind fun s => (lowEdge s).emit (.delay low) := blind_comp (blind_emit _) blind_lowEdge
  blind_attempt _ blind_id (blind_comp (blind_attempt _ blind_id hhigh) hlow)

theorem blind_sendCommand (c : Command) : Blind (sendCommand c) := fun bg ctl s =>
  have hsent : Blind fun s => advance ((commandPhase c s).ctlWrite c []) :=
    blind_comp blind_advance (blind_comp (blind_ctlWrite c []) (blind_commandPhase c))
  blind_attempt (.cmd (s.cfg.opc.code c)) (blind_ctlForget c) hsent bg ctl s

theorem blind_sendCommandWithData (c : Command) (bs : List Byte) : Blind (sendCommandWithData c bs) := by
  intro bg ctl s
  unfold sendCommandWithData
  split
  · exact blind_sendCommand c bg ctl s
  · have hdata : Blind fun s => advance (dataPhase c bs s) := blind_comp blind_advance (blind_dataPhase c bs)
    exact blind_attempt (.cmd (s.cfg.opc.code c)) (blind_ctlForget c)
      (blind_comp (blind_attempt .data (blind_ctlForget c) hdata) (blind_commandPhase c)) bg ctl s

theorem blind_waitIdle : Blind waitIdle := by
  refine blind_attempt .busy blind_id fun bg ctl s => ?_
  change SameButUnread (if s.env.busyAt 0 = idleLevel then _ else _)
    (if s.env.busyAt 0 = idleLevel then _ else _)
  split
  · exact blind_comp blind_advance blind_sample bg ctl s
  · exact blind_comp (blind_emit (.delay s.cfg.pollDelay)) blind_sample bg ctl s

theorem blind_compareProfile (p : Profile) : Blind (compareProfile p) := by
  intro bg ctl s
  change SameButUnread (if p = s.profile then _ else _) (if p = s.profile then _ else _)
  split
  · exact blind_finish bg ctl s
  · exact blind_advance bg ctl s

theorem blind_loadProfile (p : Profile) : Blind (loadProfile p) :=
  blind_comp (g := fun s => { s with profile := p }) blind_advance fun _ _ _ => rfl

/-! #### Requests -/

theorem blind_start (op : Op) : Blind (start op) := by
  intro bg ctl s
  unfold start
  cases (stepsOf op)[0]? with
  | some l => rfl
  | none => exact blind_finish bg ctl s

/-- CONSTRUCT and SET_BACKGROUND_COLOR write BG, none reads it. -/
theorem blind_requestBody (i : Instr) : Blind (requestBody i) := by
  cases i with
  | construct =>
    exact blind_comp (g := fun s => { s with
      profile := s.cfg.profileInit, bg := s.cfg.bgInit, sleepDepth := s.cfg.sleepDepthCfg })
      (blind_start .construct) fun _ _ _ => rfl
  | wake | sleep | update | display | updateAndDisplay | setRefreshProfile =>
    simp only [requestBody]
    exact blind_start _
  | setBackgroundColor c =>
    exact blind_comp (g := fun s => { s with bg := c }) (blind_answer .ok) fun _ _ _ => rfl
  | width | height => exact blind_answer _
  | _ => exact blind_id

/-- Whether a request is accepted hangs on SEQ_POS and ST (R170, R171). -/
theorem request_withUnread (i : Instr) {body : State → State} (hbody : Blind body) (bg : Color) (ctl : Ctl)
    (s : State) : SameOutcomeButUnread (request i body s) (request i body (s.withUnread bg ctl)) := by
  rcases request_cases i body s with ⟨op, k, hp, h⟩ | ⟨hp, ht, h⟩ | ⟨hp, ht, why, hc, h⟩ | ⟨hp, ht, hc, h⟩ <;>
    rw [h]
  · simp [request, State.withUnread, hp, SameOutcomeButUnread]
  · simp [request, State.withUnread, hp, ht, SameOutcomeButUnread]
  · rw [request_rejected (s := s.withUnread bg ctl) hp ht hc]
    exact blind_answer (.preconditionViolation why) bg ctl s
  · rw [request_accepted (s := s.withUnread bg ctl) hp ht hc]
    exact hbody bg ctl s

theorem exec_withUnread (i : Instr) (bg : Color) (ctl : Ctl) (s : State) :
    SameOutcomeButUnread (exec i s) (exec i (s.withUnread bg ctl)) := by
  cases hc : i.command? with
  | some cb =>
    rw [exec_of_command hc, exec_of_command hc]
    exact blind_sendCommandWithData _ _ bg ctl s
  | none =>
    rw [exec_eq_request hc, exec_eq_request hc]
    exact request_withUnread i (blind_requestBody i) bg ctl s

/-! #### The step -/

/-- What is fetched, with the state an instruction is performed in given other values in what no rule
reads. -/
def Fetched.withUnread (bg : Color) (ctl : Ctl) : Fetched → Fetched
  | .instr i s => .instr i (s.withUnread bg ctl)
  | f => f

theorem performs_withUnread (bg : Color) (ctl : Ctl) (s : State) (op : Op) (l : StepLabel) :
    performs (s.withUnread bg ctl) op l = (performs s op l).withUnread bg ctl := by
  cases l
  case w4 => cases hb : op.buf? <;> simp only [performs, hb] <;> rfl
  case p0 | p1 | p2 => cases hp : op.profile? <;> simp only [performs, hp] <;> rfl
  all_goals rfl

/-- The fetch reads SEQ_POS, the script, CFG and SLEEP_DEPTH. -/
theorem fetch_withUnread (bg : Color) (ctl : Ctl) (s : State) :
    fetch (s.withUnread bg ctl) = (fetch s).withUnread bg ctl := by
  cases hp : s.seqPos with
  | ready => cases hs : s.script <;> simp only [fetch, State.withUnread, hp, hs] <;> rfl
  | running op k =>
    cases hl : (stepsOf op)[k]? with
    | none => simp only [fetch, State.withUnread, hp, hl]; rfl
    | some l =>
      rw [step_at (s := s.withUnread bg ctl) hp hl, step_at hp hl]
      exact performs_withUnread bg ctl s op l

theorem step_withUnread (bg : Color) (ctl : Ctl) (s : State) :
    SameOutcomeButUnread (step s) (step (s.withUnread bg ctl)) := by
  unfold step
  rw [fetch_withUnread]
  cases fetch s with
  | waiting => rfl
  | instr i u => exact exec_withUnread i bg ctl u
  | reset => exact blind_resetPulse _ _ bg ctl s
  | wait => exact blind_waitIdle bg ctl s
  | compare p => exact blind_compareProfile p bg ctl s
  | load p => exact blind_loadProfile p bg ctl s
  | bad => rfl

/-- Settles O56: the same is fetched (`fetch_withUnread`) and every operation is blind. -/
theorem unreadStateIsInvisible : Obligations.UnreadStateIsInvisible := by
  intro s t h
  obtain ⟨bg, ctl, rfl⟩ := sameButUnread_iff.mp h
  exact step_withUnread bg ctl s

end Sys2Proof.Machine

/-! ### The geometry and the length of the buffer (20_memory.md R62, R63, R67) -/

namespace Sys2Proof

/-- A row is shorter than its stride, so an index is the index of one pixel: its remainder and quotient by
the width of a row (R62). -/
theorem pixelIndex_eq_iff {x y p : Nat} (hx : x < panelWidth) :
    pixelIndex x y = p ↔ x = p % panelWidth ∧ y = p / panelWidth := by
  have hunique := Nat.div_mod_unique (a := p) (c := x) (d := y) (Nat.zero_lt_of_lt hx)
  constructor
  · intro h
    obtain ⟨hdiv, hmod⟩ := hunique.mpr ⟨by rw [← h, pixelIndex, Nat.mul_comm y, Nat.add_comm], hx⟩
    exact ⟨hmod.symm, hdiv.symm⟩
  · rintro ⟨rfl, rfl⟩
    exact Nat.div_add_mod' p panelWidth

/-- Settles O59: the pixel at index `p` is the remainder and the quotient of `p` (`pixelIndex_eq_iff`). -/
theorem pixelsPackedWithoutPadding : Obligations.PixelsPackedWithoutPadding := by
  intro p hp
  have hx : p % panelWidth < 122 := Nat.mod_lt p (by decide)
  have hindex : pixelIndex (p % panelWidth) (p / panelWidth) = p := (pixelIndex_eq_iff hx).mpr ⟨rfl, rfl⟩
  have hbyte : pixelByte (p % panelWidth) (p / panelWidth) = p / 8 := by rw [pixelByte, hindex]
  refine ⟨p % panelWidth, p / panelWidth, hx, ?_, hindex, hbyte, ?_, fun x' y' hx' h => ?_⟩
  · exact Nat.div_lt_of_lt_mul hp
  · rw [hbyte]
    exact Nat.div_lt_of_lt_mul (by rw [show fbLen = 3813 from rfl]; omega)
  · exact (pixelIndex_eq_iff hx').mp h

end Sys2Proof

namespace Sys2Proof.Machine

theorem badLength_update_iff (buf : List Byte) : badLength (.update buf) = true ↔ buf.length ≠ 3813 :=
  bne_iff_ne

theorem badLength_updateAndDisplay_iff (buf : List Byte) :
    badLength (.updateAndDisplay buf) = true ↔ buf.length ≠ 3813 :=
  bne_iff_ne

/-- Settles O58: the constants by their values, the comparison by what `badLength` says of each request. -/
theorem geometryArithmetic : Obligations.GeometryArithmetic :=
  ⟨rfl, rfl, rfl, rfl, rfl, rfl, fun buf => ⟨badLength_update_iff buf, badLength_updateAndDisplay_iff buf⟩⟩

/-- The two requests with a buffer pass the checks before that of its length, in every state (R171, R172). -/
theorem precheck_of_badLength {i : Instr} (h : badLength i = true) (st : St) :
    precheck i st = some .lengthMismatch := by
  cases i with
  | update buf | updateAndDisplay buf => simp [precheck, isReserved, isUnsupported, legality, h]
  | _ => simp [badLength] at h

/-- A request whose buffer has a wrong length is rejected between requests, with nothing else changed (R67,
R225). -/
theorem exec_of_badLength {i : Instr} {s : State} (hi : i.command? = none) (hp : s.seqPos = .ready)
    (ht : s.st.transient = false) (h : badLength i = true) :
    exec i s = .next (reject .lengthMismatch s) := by
  rw [exec_eq_request hi]
  exact request_rejected hp ht (precheck_of_badLength h s.st)

/-- Settles O27: `exec_of_badLength` for each of the two requests. -/
theorem wrongLengthRejected : Obligations.WrongLengthRejected := fun _ buf hp ht hlen =>
  ⟨exec_of_badLength rfl hp ht ((badLength_update_iff buf).mpr hlen),
    exec_of_badLength rfl hp ht ((badLength_updateAndDisplay_iff buf).mpr hlen)⟩

end Sys2Proof.Machine

/-! ### The streaming store (20_memory.md R66, 41_command_vocabulary.md R152) -/

namespace Sys2Proof.Machine

/-- What a step that has sent the opcode byte of `c` appended to the trace, and the shadow it left: the bare
command, the whole frame, or a frame whose data phase faulted (R90, R122, R123). -/
inductive FrameSent (s t : State) (c : Command) : List Byte → List Event → Prop
  | bare : t.ctl = s.ctl.sent s.cfg c [] → FrameSent s t c [] [.cmd (s.cfg.opc.code c)]
  | frame (bs : List Byte) : t.ctl = s.ctl.sent s.cfg c bs → FrameSent s t c bs (s.cfg.frame c bs)
  | dataFault (bs : List Byte) : t.ctl = s.ctl.put c .unknown →
      FrameSent s t c bs [.cmd (s.cfg.opc.code c), .fault .data]

/-- A step whose events hold the opcode byte of `c` is a step that sends `c`: of all its effects only the
last four are of a command, and one of these faults before the byte is sent. -/
theorem step_sent {s t : State} {new : List Event} {c : Command} (ho : s.cfg.opc.Injective)
    (h : step s = .next t) (htrace : t.trace = s.trace ++ new) (hmem : .cmd (s.cfg.opc.code c) ∈ new) :
    ∃ op k l bs, s.seqPos = .running op k ∧ (stepsOf op)[k]? = some l ∧
      commandOf s op l = some (c, bs) ∧ FrameSent s t c bs new := by
  have hnew {es : List Event} (hes : t.trace = s.trace ++ es) : new = es :=
    List.append_cancel_left (htrace.symm.trans hes)
  cases step_effect h with
  | silent hes =>
    obtain rfl := hnew (es := []) (by simpa using hes)
    simp at hmem
  | pulse hes | pulseFaultLow hes | pulseFaultHigh hes | idle hes | busy hes | sampleFault hes
  | commandFault _ _ _ _ _ _ _ _ hes =>
    obtain rfl := hnew hes
    simp at hmem
  | command op k l d hp hl hc hes hctl =>
    obtain rfl := hnew hes
    obtain rfl : c = d := OpcMap.code_injective ho (by simpa using hmem)
    exact ⟨op, k, l, [], hp, hl, hc, .bare hctl⟩
  | commandData op k l d bs hp hl hc _ hes hctl =>
    obtain rfl := hnew hes
    obtain rfl : c = d := OpcMap.code_injective ho (by simpa using hmem)
    exact ⟨op, k, l, bs, hp, hl, hc, .frame bs hctl⟩
  | dataFault op k l d bs hp hl hc _ hes hctl =>
    obtain rfl := hnew hes
    obtain rfl : c = d := OpcMap.code_injective ho (by simpa using hmem)
    exact ⟨op, k, l, bs, hp, hl, hc, .dataFault bs hctl⟩

/-- WRITE_RAM is sent at W4 only, with the buffer lent (R183). -/
theorem commandOf_writeRam {s : State} {op : Op} {l : StepLabel} {bs : List Byte}
    (h : commandOf s op l = some (.writeRam, bs)) : l = .w4 ∧ op.buf? = some bs := by
  cases l
  case w4 => exact ⟨rfl, by simpa [commandOf] using h⟩
  all_goals simp [commandOf] at h

/-- A step that sends WRITE_RAM stands at W4 of UPDATE or UPDATE_AND_DISPLAY, and under the invariant the
buffer lent has `FB_LEN` bytes (R67, R183). -/
theorem writeRam_position {s : State} {op : Op} {k : Nat} {l : StepLabel} {bs : List Byte}
    (hinv : s.inv = true) (hp : s.seqPos = .running op k) (hl : (stepsOf op)[k]? = some l)
    (hc : commandOf s op l = some (.writeRam, bs)) :
    (s.seqPos = .running (.update bs) 18 ∨ s.seqPos = .running (.updateAndDisplay bs) 18) ∧
      bs.length = 3813 := by
  obtain ⟨rfl, hbs⟩ := commandOf_writeRam hc
  obtain ⟨-, -, -, hop, -⟩ := (inv_iff_of_running hp).mp hinv
  obtain ⟨buf, hbuf, rfl, rfl | rfl⟩ := buf_of_w4 hl <;> obtain rfl := Option.some.inj hbs
  · exact ⟨.inl hp, beq_iff_eq.mp hop⟩
  · exact ⟨.inr hp, beq_iff_eq.mp hop⟩

/-- Settles O53: where WRITE_RAM is sent by `writeRam_position`, what is appended by `step_sent`; a buffer
of 3813 bytes is not sent as a bare command. -/
theorem ramWrittenOnlyWithWholeBuffer : Obligations.RamWrittenOnlyWithWholeBuffer := by
  intro s t new hinv ho h htrace hmem
  obtain ⟨op, k, l, buf, hp, hl, hc, hsent⟩ := step_sent (c := .writeRam) ho h htrace hmem
  obtain ⟨hpos, hlen⟩ := writeRam_position hinv hp hl hc
  refine ⟨buf, hpos, hlen, ?_⟩
  cases hsent with
  | bare => simp at hlen
  | frame _ hctl => exact .inl ⟨rfl, by rw [hctl, Ctl.get_sent_same]⟩
  | dataFault _ hctl => exact .inr ⟨rfl, by rw [hctl, Ctl.get_put_same]⟩

end Sys2Proof.Machine

/-! ### The decoders and the encoder (30_encoding.md) -/

namespace Sys2Proof.Machine

/-! #### Opcode bytes and frames (R90, R97, R98) -/

/-- The command of a byte is the one with that opcode (R98). -/
theorem decodeCommandByte_eq_some_iff {o : OpcMap} (ho : o.Injective) {b : Byte} {c : Command} :
    decodeCommandByte o b = some c ↔ o.code c = b := by
  constructor
  · intro h
    exact beq_iff_eq.mp (List.find?_some (p := fun d => o.code d == b) h)
  · rintro rfl
    exact decodeCommandByte_code ho c

/-- A byte of no command refuses its frame (R98). -/
theorem decodeFrame_invalid {o : OpcMap} (ho : o.Injective) {b : Byte} (hb : ∀ c, o.code c ≠ b)
    (data : List Byte) : decodeFrame o b data = .error (.invalid b) := by
  have hnone : decodeCommandByte o b = none :=
    Option.eq_none_iff_forall_ne_some.mpr fun c hc => hb c ((decodeCommandByte_eq_some_iff ho).mp hc)
  simp [decodeFrame, hnone]

/-- Settles O6: the two lemmas above. -/
theorem opcodeByteDecodes : Obligations.OpcodeByteDecodes := fun _ _ data ho =>
  ⟨fun _ => decodeCommandByte_eq_some_iff ho, fun hb => decodeFrame_invalid ho hb data⟩

/-- The encoding of a command is its frame (R90). -/
theorem encode_command (o : OpcMap) {i : Instr} {c : Command} {bs : List Byte}
    (h : i.command? = some (c, bs)) : encode o i = .frame (o.code c) bs := by
  cases i <;> cases h <;> rfl

/-- A well-formed command has bytes in its data phase exactly if it is of format CDF (R90, R93). -/
theorem isEmpty_of_wf {i : Instr} {c : Command} {bs : List Byte} (h : i.command? = some (c, bs))
    (hwf : i.wf = true) : bs.isEmpty = c.bare := by
  cases i <;> cases h
  case swReset | masterActivation => rfl
  all_goals
    cases bs with
    | nil => exact absurd hwf (by decide)
    | cons => rfl

/-- A frame with the data phase its format asks for decodes to its command (R90). -/
theorem decodeFrame_code {o : OpcMap} (ho : o.Injective) {c : Command} {bs : List Byte}
    (h : bs.isEmpty = c.bare) : decodeFrame o (o.code c) bs = .ok (c.instr bs) := by
  cases hc : c.bare with
  | false => simp [decodeFrame, decodeCommandByte_code ho, h, hc]
  | true =>
    obtain rfl : bs = [] := List.isEmpty_iff.mp (h.trans hc)
    simp [decodeFrame, decodeCommandByte_code ho, hc]

/-- The frame of a well-formed command decodes to it. -/
theorem decodeFrame_of_wf {o : OpcMap} (ho : o.Injective) {i : Instr} {c : Command} {bs : List Byte}
    (h : i.command? = some (c, bs)) (hwf : i.wf = true) : decodeFrame o (o.code c) bs = .ok i := by
  rw [Instr.eq_command h]
  exact decodeFrame_code ho (isEmpty_of_wf h hwf)

/-! #### Request words (R96, R99) -/

/-- The request word of a request decodes to it, with its operand bit or its buffer (R96, R99). -/
theorem decode_encode_request (o : OpcMap) {i : Instr} (h : i.command? = none) :
    decode o (encode o i) = .ok i := by
  cases i with
  | setRefreshProfile p => cases p <;> rfl
  | setBackgroundColor c => cases c <;> rfl
  | reserved code =>
    have hcode : ∀ code : BitVec 2, decodeRequest (requestWord (0b11#2 ++ code) 0) [] = .reserved code := by
      decide
    exact congrArg Except.ok (hcode code)
  | construct | wake | sleep | update | display | updateAndDisplay | width | height | updatePartial
  | clearFrame => rfl
  | _ => cases h

/-- Settles O2: a command's frame by `decodeFrame_of_wf`, a request's word by `decode_encode_request`. -/
theorem decodeOfEncode : Obligations.DecodeOfEncode := by
  intro o i ho hwf
  cases hc : i.command? with
  | none => exact decode_encode_request o hc
  | some cb =>
    obtain ⟨c, bs⟩ := cb
    rw [encode_command o hc]
    exact decodeFrame_of_wf ho hc hwf

/-- The low two bits of a word are those of its code (R99). -/
theorem extractLsb'_reqCode (w : Byte) : (reqCode w).extractLsb' 0 2 = w.extractLsb' 0 2 := by
  simp [reqCode]

/-- A word with a code of 12 or more is a reserved request (R99). -/
theorem decodeRequest_reserved {w : Byte} (h : 12 ≤ reqCode w) (buf : List Byte) :
    decodeRequest w buf = .reserved (w.extractLsb' 0 2) := by
  have hn : 12 ≤ (reqCode w).toNat := h
  unfold decodeRequest
  split
  case h_13 => rfl
  all_goals omega

/-- Settles O4: the arm of each code. -/
theorem requestCodesSelect : Obligations.RequestCodesSelect := by
  intro w buf
  refine ⟨?_, ?_, ?_, ?_, ?_, ?_, ?_, ?_, ?_, ?_, ?_, ?_, ?_, ?_, fun h => ⟨_, decodeRequest_reserved h buf⟩⟩
  case refine_7 | refine_8 => intro h ha; simp [decodeRequest, h, ha, Profile.ofBit]
  case refine_9 | refine_10 => intro h ha; simp [decodeRequest, h, ha, Color.ofBit]
  all_goals intro h; simp [decodeRequest, h]

/-- Settles O5: the code selects the arm and bit 4 is read at codes 6 and 7 only. -/
theorem ignoredRequestBits : Obligations.IgnoredRequestBits := by
  intro w w' buf hcode harg
  have hlow : w.extractLsb' 0 2 = w'.extractLsb' 0 2 := by
    rw [← extractLsb'_reqCode, hcode, extractLsb'_reqCode]
  unfold decodeRequest
  rw [← hcode, ← hlow]
  rcases harg with harg | ⟨h6, h7⟩
  · rw [harg]
  · split
    case h_7 h => exact absurd (BitVec.eq_of_toNat_eq h) h6
    case h_8 h => exact absurd (BitVec.eq_of_toNat_eq h) h7
    all_goals rfl

/-- Settles O1: `decode` evaluated at each word. -/
theorem writtenOutWordsDecode : Obligations.WrittenOutWordsDecode :=
  ⟨rfl, rfl, rfl, rfl, rfl, rfl, rfl⟩

/-! #### The raw stream (R93) -/

/-- The bytes sent with the select line high before a frame starts belong to what came before. -/
theorem cutFrames_data (bs : List Byte) (ws : List WireByte) :
    cutFrames (bs.map (fun b => ⟨.high, b⟩) ++ ws) = (bs ++ (cutFrames ws).1, (cutFrames ws).2) := by
  induction bs with
  | nil => rfl
  | cons b bs ih => simp [cutFrames, ih]

/-- A frame is cut off whole where nothing stands between it and the next (R93). -/
theorem cutFrames_frame (b : Byte) (bs : List Byte) {ws : List WireByte} (h : (cutFrames ws).1 = []) :
    cutFrames ((Words.frame b bs).wire ++ ws) = ([], (b, bs) :: (cutFrames ws).2) := by
  simp [Words.wire, cutFrames, cutFrames_data, h]

/-- A frame decodes first, the stream after it as before, where the next frame follows at once (R93). -/
theorem decodeStream_frame (o : OpcMap) (b : Byte) (bs : List Byte) {ws : List WireByte}
    (h : (cutFrames ws).1 = []) :
    decodeStream o ((Words.frame b bs).wire ++ ws) = decodeFrame o b bs :: decodeStream o ws := by
  simp [decodeStream, cutFrames_frame b bs h, h]

/-- The frames of commands one after another begin with a frame. -/
theorem cutFrames_commands (o : OpcMap) {is : List Instr} (h : ∀ i ∈ is, i.command?.isSome = true) :
    (cutFrames (is.flatMap (fun i => (encode o i).wire))).1 = [] := by
  cases is with
  | nil => rfl
  | cons i is =>
    obtain ⟨⟨c, bs⟩, hc⟩ := Option.isSome_iff_exists.mp (h i List.mem_cons_self)
    rw [List.flatMap_cons, encode_command o hc]
    rfl

/-- Settles O3, by induction on the commands: each frame is cut off (`decodeStream_frame`) and decodes to its
command (`decodeFrame_of_wf`). -/
theorem streamOfFramesDecodes : Obligations.StreamOfFramesDecodes := by
  intro o is ho h
  induction is with
  | nil => rfl
  | cons i is ih =>
    obtain ⟨⟨hwf, hi⟩, his⟩ := List.forall_mem_cons.mp h
    obtain ⟨⟨c, bs⟩, hc⟩ := Option.isSome_iff_exists.mp hi
    have hcut := cutFrames_commands o fun j hj => (his j hj).2
    rw [List.flatMap_cons, encode_command o hc, decodeStream_frame o _ _ hcut, decodeFrame_of_wf ho hc hwf,
      ih his, List.map_cons]

end Sys2Proof.Machine

/-! ### A data phase follows its command phase (30_encoding.md R91) -/

namespace Sys2Proof.Machine

/-- Events in which every data phase follows a command phase can be appended to such a trace. -/
theorem dataFollowsCmd_append {afterCmd : Bool} {tr new : List Event}
    (h : dataFollowsCmd afterCmd tr = true) (hnew : dataFollowsCmd false new = true) :
    dataFollowsCmd afterCmd (tr ++ new) = true := by
  induction tr generalizing afterCmd with
  | nil =>
    cases new with
    | nil => rfl
    | cons e es =>
      cases e with
      | data bs => simp [dataFollowsCmd] at hnew
      | rst | delay | busy | cmd | fault => exact hnew
  | cons e tr ih => cases e <;> simp_all [dataFollowsCmd]

/-- Settles O50: what a step appends (`step_effect`) holds a data phase only with the command phase before
it. -/
theorem dataFollowsCommandKept : Obligations.DataFollowsCommandKept := by
  intro s t hs h
  cases step_effect h with
  | silent htrace => rwa [htrace]
  | pulse htrace | pulseFaultLow htrace | pulseFaultHigh htrace | idle htrace | busy htrace
  | sampleFault htrace | command _ _ _ _ _ _ _ htrace | commandData _ _ _ _ _ _ _ _ _ htrace
  | commandFault _ _ _ _ _ _ _ _ htrace | dataFault _ _ _ _ _ _ _ _ _ htrace =>
    rw [htrace]
    exact dataFollowsCmd_append hs rfl

end Sys2Proof.Machine

/-! ### Requests that perform the same at a step (30_encoding.md R104) -/

namespace Sys2Proof.Machine

/-- What two requests share where they perform the same at step `k`: the step, the one after it and the
buffer lent; neither is SET_REFRESH_PROFILE. -/
structure Op.SameAt (op op' : Op) (k : Nat) : Prop where
  label : (stepsOf op')[k]? = (stepsOf op)[k]?
  next : (stepsOf op')[k + 1]? = (stepsOf op)[k + 1]?
  buf : op'.buf? = op.buf?
  noProfile : op.profile? = none ∧ op'.profile? = none

/-- The state with SEQ_POS elsewhere. -/
def State.atPos (p : SeqPos) (s : State) : State := { s with seqPos := p }

theorem withOp_of_running {s : State} {op : Op} {k : Nat} (hp : s.seqPos = .running op k) (op' : Op) :
    s.withOp op' = s.atPos (.running op' k) := by
  simp [State.withOp, State.atPos, hp]

/-- An operation that neither reads nor writes SEQ_POS. -/
def Positionless (f : State → State) : Prop := ∀ p s, f (s.atPos p) = (f s).atPos p

/-- At step `k` the operation does for `op'` what it does for `op`, but for the name of the request that
then runs. -/
def SameFor (op op' : Op) (k : Nat) (f : State → State) : Prop :=
  ∀ s, s.seqPos = .running op k → f (s.atPos (.running op' k)) = (f s).withOp op'

theorem Positionless.seqPos_eq {f : State → State} (hf : Positionless f) (s : State) :
    (f s).seqPos = s.seqPos := by
  have hself : f s = (f s).atPos s.seqPos := hf s.seqPos s
  rw [hself]
  rfl

section
variable {op op' : Op} {k : Nat}

/-- What leaves SEQ_POS alone can come first. -/
theorem SameFor.comp {f g : State → State} (hf : SameFor op op' k f) (hg : Positionless g) :
    SameFor op op' k (fun s => f (g s)) := by
  intro s hp
  have hcomm : g (s.atPos (.running op' k)) = (g s).atPos (.running op' k) := hg _ s
  simp only [hcomm]
  exact hf (g s) ((hg.seqPos_eq s).trans hp)

theorem Positionless.sameFor {f : State → State} (hf : Positionless f) : SameFor op op' k f := fun s hp =>
  (hf _ s).trans (withOp_of_running ((hf.seqPos_eq s).trans hp) op').symm

theorem sameFor_transportFault (a : Action) : SameFor op op' k (transportFault a) := fun _ _ => rfl

/-- `advance` reads the step completed and the step after it. -/
theorem sameFor_advance (h : op.SameAt op' k) : SameFor op op' k advance := by
  intro s hp
  cases hl : (stepsOf op)[k + 1]? <;>
    simp only [advance, stDone, hp, State.atPos, h.label, h.next, hl] <;> rfl

/-- An action decided by the environment alone, whichever way it goes on. -/
theorem SameFor.attempt (a : Action) {lost ok : State → State} (hlost : Positionless lost)
    (hok : SameFor op op' k ok) : SameFor op op' k (attempt a lost ok) := by
  intro s hp
  cases h : s.env.faultAt 0 with
  | false =>
    rw [attempt_quiet h, attempt_quiet (s := s.atPos (.running op' k)) h]
    exact hok { s with env := s.env.after 1 0 } hp
  | true =>
    rw [attempt_fault h, attempt_fault (s := s.atPos (.running op' k)) h]
    exact (sameFor_transportFault a).comp hlost { s with env := s.env.after 1 0 } hp

theorem positionless_id : Positionless id := fun _ _ => rfl
theorem positionless_ctlForget (c : Command) : Positionless (State.ctlForget c) := fun _ _ => rfl

/-- The frame of a command, as it is sent for either request (R122, R123). -/
theorem sameFor_sendCommandWithData (h : op.SameAt op' k) (c : Command) (bs : List Byte) :
    SameFor op op' k (sendCommandWithData c bs) := by
  intro s hp
  unfold sendCommandWithData
  split
  · have hsent : SameFor op op' k fun s => advance ((commandPhase c s).ctlWrite c []) :=
      (sameFor_advance h).comp fun _ _ => rfl
    exact hsent.attempt (.cmd (s.cfg.opc.code c)) (positionless_ctlForget c) s hp
  · have hdata : SameFor op op' k fun s => advance (dataPhase c bs s) := (sameFor_advance h).comp fun _ _ => rfl
    have hcommand : Positionless (commandPhase c) := fun _ _ => rfl
    exact ((hdata.attempt .data (positionless_ctlForget c)).comp hcommand).attempt
      (.cmd (s.cfg.opc.code c)) (positionless_ctlForget c) s hp

theorem sameFor_resetPulse (h : op.SameAt op' k) (low settle : Nat) :
    SameFor op op' k (resetPulse low settle) :=
  have hhigh : SameFor op op' k fun s => advance ((highEdge s).emit (.delay settle)) :=
    (sameFor_advance h).comp fun _ _ => rfl
  have hlow : Positionless fun s => (lowEdge s).emit (.delay low) := fun _ _ => rfl
  ((hhigh.attempt (.rst .high) positionless_id).comp hlow).attempt (.rst .low) positionless_id

theorem sameFor_waitIdle (h : op.SameAt op' k) : SameFor op op' k waitIdle := by
  refine SameFor.attempt .busy positionless_id fun s hp => ?_
  change (if s.env.busyAt 0 = idleLevel then _ else _) =
    State.withOp op' (if s.env.busyAt 0 = idleLevel then _ else _)
  split
  · have hidle : SameFor op op' k fun s => advance (sample s) := (sameFor_advance h).comp fun _ _ => rfl
    exact hidle s hp
  · have hbusy : Positionless fun s => (sample s).emit (.delay s.cfg.pollDelay) := fun _ _ => rfl
    exact hbusy.sameFor s hp

/-- A step sends the same for both requests (R100). -/
theorem commandOf_atPos (h : op.SameAt op' k) (p : SeqPos) (s : State) (l : StepLabel) :
    commandOf (s.atPos p) op' l = commandOf s op l := by
  obtain ⟨hnone, hnone'⟩ := h.noProfile
  cases l
  case w4 => simp only [commandOf, h.buf]
  case p1 => simp only [commandOf, hnone, hnone', Option.map_none]
  all_goals rfl

/-- Where two requests perform the same, so does a step. -/
theorem step_withOp (h : op.SameAt op' k) {s t : State} (hp : s.seqPos = .running op k)
    (hs : step s = .next t) : step (s.withOp op') = .next (t.withOp op') := by
  rw [withOp_of_running hp]
  have hp' : (s.atPos (.running op' k)).seqPos = .running op' k := rfl
  have hlabel {l : StepLabel} (hl : (stepsOf op)[k]? = some l) : (stepsOf op')[k]? = some l := h.label.trans hl
  rcases step_cases hs with ⟨hr, -⟩ | ⟨r, rest, hr, -⟩ | ⟨op₁, hr, hl, rfl⟩ | ⟨op₁, k₁, l, hr, hl, hw, rfl⟩ |
    ⟨op₁, k₁, l, c, bs, hr, hl, hc, rfl⟩ | ⟨p, hr, -⟩ | ⟨p, hr, -⟩ <;> cases hp.symm.trans hr
  · rw [step_reset hp' (hlabel hl)]
    exact congrArg _ (sameFor_resetPulse h _ _ s hp)
  · rw [step_wait hp' (hlabel hl) hw]
    exact congrArg _ (sameFor_waitIdle h s hp)
  · rw [step_command hp' (hlabel hl) ((commandOf_atPos h _ s l).trans hc)]
    exact congrArg _ (sameFor_sendCommandWithData h c bs s hp)
  · cases h.noProfile.1
  · cases h.noProfile.1

end

/-- CONSTRUCT and WAKE both run `Init` (R173, R174). -/
theorem wake_sameAt_construct (k : Nat) : Op.wake.SameAt .construct k := ⟨rfl, rfl, rfl, rfl, rfl⟩

/-- Settles O39: the two requests perform the same at every step (`step_withOp`). -/
theorem constructStepsAreWakeSteps : Obligations.ConstructStepsAreWakeSteps := fun _ _ k hp hs =>
  step_withOp (wake_sameAt_construct k) hp hs

end Sys2Proof.Machine

/-! ### What the environment answers to a run in parts (00_scope.md R72, R125) -/

namespace Sys2Proof.Machine

theorem Env.Quiet.mono {e : Env} {m n : Nat} (h : e.Quiet n) (hmn : m ≤ n) : e.Quiet m :=
  fun i hi => h i (Nat.lt_of_lt_of_le hi hmn)

/-- What is quiet from now is quiet after the first `m` actions. -/
theorem Env.Quiet.after {e : Env} {m n : Nat} (h : e.Quiet (m + n)) (b : Nat) : (e.after m b).Quiet n :=
  fun i hi => by rw [Env.faultAt_after]; exact h (m + i) (Nat.add_lt_add_left hi m)

/-- The samples of a list of readings, taken one after the other. -/
theorem Env.reads_cons {e : Env} {l : Level} {ls : List Level} (f : Nat) :
    e.Reads (l :: ls) ↔ e.busyAt 0 = l ∧ (e.after f 1).Reads ls := by
  constructor
  · intro h
    refine ⟨by simpa using h 0 (by simp), fun i hi => ?_⟩
    simpa [Nat.add_comm] using h (i + 1) (by simpa using hi)
  · rintro ⟨h0, h⟩ i hi
    cases i with
    | zero => simpa using h0
    | succ i => simpa [Nat.add_comm] using h i (by simpa using hi)

/-- The samples of two lists of readings, one after the other. -/
theorem Env.reads_append {e : Env} {ls ls' : List Level} (f : Nat) :
    e.Reads (ls ++ ls') ↔ e.Reads ls ∧ (e.after f ls.length).Reads ls' := by
  induction ls generalizing e f with
  | nil => simp [Env.Reads]
  | cons l ls ih =>
    rw [List.cons_append, Env.reads_cons f, Env.reads_cons f, ih 0, Env.after_after, and_assoc,
      List.length_cons, Nat.add_zero, Nat.add_comm 1]

end Sys2Proof.Machine

/-! ### The reset pulse (40_transport_framer.md R121) -/

namespace Sys2Proof.Machine

theorem resetPulse_quiet {s : State} (low settle : Nat) (h : s.env.Quiet 2) :
    resetPulse low settle s = advance { s with
      rst := .high, ctl := Ctl.allUnknown, env := s.env.after 2 0,
      trace := s.trace ++ [.rst .low, .delay low, .rst .high, .delay settle] } := by
  simpa [h 0, h 1] using resetPulse_cases low settle s

theorem resetPulse_fault_low {s : State} (low settle : Nat) (h : s.env.faultAt 0 = true) :
    resetPulse low settle s = transportFault (.rst .low) { s with env := s.env.after 1 0 } := by
  simpa [h] using resetPulse_cases low settle s

theorem resetPulse_fault_high {s : State} (low settle : Nat) (h0 : s.env.faultAt 0 = false)
    (h1 : s.env.faultAt 1 = true) :
    resetPulse low settle s = transportFault (.rst .high) { s with
      rst := .low, ctl := Ctl.allUnknown, env := s.env.after 2 0,
      trace := s.trace ++ [.rst .low, .delay low] } := by
  simpa [h0, h1] using resetPulse_cases low settle s

/-- The step list of a request that begins with I0 goes on with I1 (R175). -/
theorem i1_after_i0 {op : Op} (h : (stepsOf op)[0]? = some .i0) : (stepsOf op)[1]? = some .i1 := by
  cases op
  case construct | wake | update | updateAndDisplay => rfl
  case sleep | display | setRefreshProfile => cases h

/-- Settles O9: the three ends of the pulse; I0 and I1 leave `ST` alone, so the advance moves SEQ_POS only. -/
theorem resetPulseAtI0 : Obligations.ResetPulse := by
  intro s op hp hl
  rw [step_reset hp hl]
  refine ⟨fun hq => ?_, fun h0 => ⟨.high, ?_⟩, fun h0 h1 => ⟨.high, ?_⟩⟩
  · rw [resetPulse_quiet _ _ hq]
    exact congrArg _ (advance_running (by exact hp) hl (i1_after_i0 hl))
  · rw [resetPulse_fault_low _ _ h0]
    rfl
  · rw [resetPulse_fault_high _ _ h0 h1]
    simp [transportFault, State.emit, State.answer]

end Sys2Proof.Machine

/-! ### Waits (40_transport_framer.md R124, 60_exceptions.md R224) -/

namespace Sys2Proof.Machine

theorem waitIdle_idle {s : State} (h : s.env.faultAt 0 = false) (hb : s.env.busyAt 0 = .high) :
    waitIdle s = advance ({ s with env := s.env.after 1 1 }.emit (.busy .high)) := by
  simpa [h, hb] using waitIdle_cases s

theorem waitIdle_busy {s : State} (h : s.env.faultAt 0 = false) (hb : s.env.busyAt 0 = .low) :
    waitIdle s = { s with
      env := s.env.after 1 1, trace := s.trace ++ [.busy .low, .delay s.cfg.pollDelay] } := by
  simpa [h, hb] using waitIdle_cases s

theorem waitIdle_fault {s : State} (h : s.env.faultAt 0 = true) :
    waitIdle s = transportFault .busy { s with env := s.env.after 1 0 } := by
  simpa [h] using waitIdle_cases s

/-- The state after `n` polls that read busy. -/
def State.polled (n : Nat) (s : State) : State := { s with
  env := s.env.after n n
  trace := s.trace ++ (List.replicate n [Event.busy .low, Event.delay s.cfg.pollDelay]).flatten }

/-- At a wait, `n` busy readings are `n` steps that poll and do nothing else. -/
theorem run_busy {s : State} {op : Op} {k n : Nat} {l : StepLabel} (hp : s.seqPos = .running op k)
    (hl : (stepsOf op)[k]? = some l) (hw : l ∈ waitLabels) (hq : s.env.Quiet n)
    (hr : s.env.Reads (List.replicate n .low)) :
    run n s = .next (s.polled n) := by
  induction n generalizing s with
  | zero => simp [State.polled]
  | succ n ih =>
    rw [List.replicate_succ, Env.reads_cons 1] at hr
    obtain ⟨hbusy, hrest⟩ := hr
    rw [Nat.add_comm] at hq
    have hstep := step_wait hp hl hw
    rw [waitIdle_busy (hq 0 (by omega)) hbusy] at hstep
    rw [run_succ n hstep, ih]
    · simp [State.polled, List.replicate_succ, Nat.add_comm]
    · exact hp
    · exact hq.after 1
    · exact hrest

/-- Settles O10: the busy readings by `run_busy`, then one step whose sample is idle. -/
theorem waitIdleReturnsAtFirstIdle : Obligations.WaitIdleReturnsAtFirstIdle := by
  intro s op k n l hp hl hw hq hr
  obtain ⟨hbusy, hidle⟩ := (Env.reads_append n).mp hr
  rw [List.length_replicate, Env.reads_cons 0] at hidle
  rw [run_add 1 (run_busy hp hl hw (hq.mono n.le_succ) hbusy)]
  have hstep := step_wait (s := s.polled n) hp hl hw
  rw [waitIdle_idle (hq.after n 0 (by omega)) hidle.1] at hstep
  rw [run_one hstep]
  simp [State.polled, State.emit, Cfg.poll]

/-- Settles O19: the entry of R226 from the state whose one action was the sample. -/
theorem faultInSample : Obligations.FaultInSample := by
  intro s op k l hp hl hw h
  rw [step_wait hp hl hw, waitIdle_fault h]
  exact ⟨.high, rfl⟩

end Sys2Proof.Machine

/-! ### Controller commands that complete (40_transport_framer.md R122, R123) -/

namespace Sys2Proof.Machine

theorem Ctl.sent_swReset (cfg : Cfg) (bs : List Byte) (t : Ctl) :
    t.sent cfg .swReset bs = Ctl.allUnknown.put .swReset (.sent bs) := by
  simp [Ctl.sent]

theorem Ctl.sent_deepSleepMode (cfg : Cfg) (bs : List Byte) (t : Ctl) :
    t.sent cfg .deepSleepMode bs = if bs = cfg.paySleepNoRetain
      then (t.put .writeRam .unknown).put .deepSleepMode (.sent bs)
      else t.put .deepSleepMode (.sent bs) := by
  by_cases h : bs = cfg.paySleepNoRetain <;> simp [Ctl.sent, h]

/-- Every command but SW_RESET and DEEP_SLEEP_MODE records what it sent and forgets nothing. -/
theorem Ctl.sent_eq_put (cfg : Cfg) {c : Command} (bs : List Byte) (t : Ctl) (hr : c ≠ .swReset)
    (hs : c ≠ .deepSleepMode) : t.sent cfg c bs = t.put c (.sent bs) := by
  simp [Ctl.sent, hr, hs]

/-- A command with no bytes and no fault is one command phase. -/
theorem exec_bare_quiet (c : Command) {s : State} (h : s.env.faultAt 0 = false) :
    exec (c.instr []) s = .next (advance { s with
      dc := .high
      ctl := s.ctl.sent s.cfg c []
      env := s.env.after 1 0
      trace := s.trace ++ [.cmd (s.cfg.opc.code c)] }) := by
  rw [exec_command, ite_self, sendCommandWithData_nil]
  exact congrArg _ (attempt_quiet h)

/-- A command with a payload and no fault is one command phase and one data phase. -/
theorem exec_data_quiet {c : Command} {bs : List Byte} {s : State} (hc : c.bare = false) (hb : bs ≠ [])
    (h : s.env.Quiet 2) :
    exec (c.instr bs) s = .next (advance { s with
      dc := .high
      ctl := s.ctl.sent s.cfg c bs
      env := s.env.after 2 0
      trace := s.trace ++ [.cmd (s.cfg.opc.code c), .data bs] }) := by
  have hsent : sendCommandWithData c bs s =
      advance (dataPhase c bs (commandPhase c { s with env := s.env.after 2 0 })) := by
    simpa [h 0, h 1] using sendCommandWithData_cases c hb s
  rw [exec_command, hc, if_neg (by simp), hsent]
  simp [dataPhase, commandPhase, State.emit, State.ctlWrite]

/-- Settles O13: every command with no bytes is `exec_bare_quiet`; the two bare commands by their row of the
shadow. -/
theorem bareCommandsComplete : Obligations.BareCommandsComplete := by
  intro s h
  refine ⟨⟨.high, ?_⟩, ⟨.high, ?_⟩, fun c => ⟨.high, exec_bare_quiet c h⟩⟩
  · rw [← Ctl.sent_swReset s.cfg [] s.ctl]
    exact exec_bare_quiet .swReset h
  · rw [← Ctl.sent_eq_put s.cfg [] s.ctl (by decide) (by decide)]
    exact exec_bare_quiet .masterActivation h

/-- Settles O14: the frame by `exec_data_quiet`; a command that is not bare is not SW_RESET. -/
theorem dataCommandsComplete : Obligations.DataCommandsComplete := by
  intro s c bs hc hsleep hb h
  have hreset : c ≠ .swReset := by rintro rfl; cases hc
  rw [← Ctl.sent_eq_put s.cfg bs s.ctl hreset hsleep]
  exact ⟨.high, exec_data_quiet hc hb h⟩

/-- Settles O15: the frame by `exec_data_quiet`, what the shadow forgets by `Ctl.sent_deepSleepMode`. -/
theorem deepSleepModeCompletes : Obligations.DeepSleepModeCompletes := by
  intro s bs hb h
  rw [← Ctl.sent_deepSleepMode]
  exact ⟨.high, exec_data_quiet (c := .deepSleepMode) rfl hb h⟩

end Sys2Proof.Machine

/-! ### Every activation is staged (41_command_vocabulary.md R154, 42_panel_state_machine.md R184, R186) -/

namespace Sys2Proof.Machine

/-- The trace ends in a whole DISPLAY_UPDATE_CONTROL_2 frame. -/
def EndsStaged (o : OpcMap) (tr : List Event) : Prop :=
  ∃ front bs, tr = front ++ [.cmd (o.code .displayUpdateControl2), .data bs]

/-- At a step that sends MASTER_ACTIVATION (R184, R186). -/
def State.AtActivation (s : State) : Prop := s.seqPos.label? = some .a1 ∨ s.seqPos.label? = some .s2

/-- At a step that sends DISPLAY_UPDATE_CONTROL_2 (R184, R186). -/
def State.AtStaging (s : State) : Prop := s.seqPos.label? = some .a0 ∨ s.seqPos.label? = some .s1

/-! #### Where SEQ_POS stands -/

theorem running_of_label {s : State} {l : StepLabel} (h : s.seqPos.label? = some l) :
    ∃ op k, s.seqPos = .running op k ∧ (stepsOf op)[k]? = some l := by
  cases hp : s.seqPos with
  | ready => simp [hp, SeqPos.label?] at h
  | running op k => exact ⟨op, k, rfl, by simpa [hp, SeqPos.label?] using h⟩

theorem label_of_running {s : State} {op : Op} {k : Nat} (hp : s.seqPos = .running op k) :
    s.seqPos.label? = (stepsOf op)[k]? := by
  rw [hp]
  rfl

theorem not_atActivation_of_ready {s : State} (hp : s.seqPos = .ready) : ¬ s.AtActivation := by
  simp [State.AtActivation, hp, SeqPos.label?]

theorem State.AtStaging.not_atActivation {s : State} (h : s.AtStaging) : ¬ s.AtActivation := by
  rcases h with h | h <;> simp [State.AtActivation, h]

/-- In every step list the step before an activating step is a staging step. -/
theorem stepsOf_stagedBefore (op : Op) :
    (stepsOf op).IsChain fun l l' => l' = .a1 ∨ l' = .s2 → l = .a0 ∨ l = .s1 := by
  cases op <;> simp only [stepsOf] <;> decide

/-- No step list begins with an activating step. -/
theorem not_atActivation_of_first {s : State} {op : Op} (hp : s.seqPos = .running op 0) :
    ¬ s.AtActivation := by
  rw [State.AtActivation, label_of_running hp]
  cases op <;> simp only [stepsOf] <;> decide

/-- SEQ_POS advances to an activating step from a staging step only. -/
theorem atStaging_of_advance {u : State} (h : (advance u).AtActivation) : u.AtStaging := by
  rcases advance_cases u with ⟨hp, hu⟩ | ⟨op, k, l, hp, hl, hu⟩ | ⟨op, k, -, -, hu⟩ <;> rw [hu] at h
  · exact absurd h (not_atActivation_of_ready hp)
  · rw [State.AtActivation, label_of_running rfl, hl, Option.some_inj, Option.some_inj] at h
    obtain ⟨hk, rfl⟩ := List.getElem?_eq_some_iff.mp hl
    have hstaged := List.isChain_iff_getElem.mp (stepsOf_stagedBefore op) k hk h
    rwa [State.AtStaging, label_of_running hp, List.getElem?_eq_getElem (by omega), Option.some_inj,
      Option.some_inj]
  · exact absurd h (not_atActivation_of_ready rfl)

/-- A primitive comes to an activating step by advancing from a staging step, or stands there already. -/
theorem PrimitiveEnd.before_activation {s t : State} (hend : PrimitiveEnd s t) (ht : t.AtActivation) :
    s.AtStaging ∨ s.AtActivation := by
  cases hend with
  | advance u hu =>
    have hstaging := atStaging_of_advance ht
    rw [State.AtStaging, hu.seqPos] at hstaging
    exact .inl hstaging
  | fault a u hu => exact absurd ht (not_atActivation_of_ready rfl)
  | stay t hu =>
    rw [State.AtActivation, hu.seqPos] at ht
    exact .inr ht

/-- An accepted request leaves SEQ_POS or stands at the first step of its list (R170). -/
theorem requestBody_seqPos (i : Instr) (s : State) :
    (requestBody i s).seqPos = s.seqPos ∨ ∃ op, (requestBody i s).seqPos = .running op 0 := by
  cases i with
  | construct | wake | sleep | update | display | updateAndDisplay | setRefreshProfile =>
    exact .inr ⟨_, rfl⟩
  | _ => exact .inl rfl

/-- A request presented does not come to an activating step. -/
theorem exec_request_not_atActivation {i : Instr} {s t : State} (hi : i.command? = none)
    (hp : s.seqPos = .ready) (h : exec i s = .next t) : ¬ t.AtActivation := by
  rcases exec_request_next hi h with ⟨why, rfl⟩ | ⟨-, rfl⟩
  · exact not_atActivation_of_ready hp
  · rcases requestBody_seqPos i s with hkept | ⟨op, hfirst⟩
    · exact not_atActivation_of_ready (hkept.trans hp)
    · exact not_atActivation_of_first hfirst

/-- A step comes to an activating step from a staging step, or stands there already. -/
theorem step_before_activation {s t : State} (h : step s = .next t) (ht : t.AtActivation) :
    s.AtStaging ∨ s.AtActivation := by
  rcases step_cases h with ⟨-, -, rfl⟩ | ⟨r, rest, hp, -, hx⟩ | ⟨op, -, -, rfl⟩ | ⟨op, k, l, -, -, -, rfl⟩ |
    ⟨op, k, l, c, bs, -, -, -, rfl⟩ | ⟨p, -, rfl⟩ | ⟨p, -, rfl⟩
  · exact .inr ht
  · have hready : { s with script := rest }.seqPos = .ready := hp
    exact absurd ht (exec_request_not_atActivation (decodeRequest_command _ _) hready hx)
  · exact (resetPulse_end ..).before_activation ht
  · exact (waitIdle_end s).before_activation ht
  · exact (sendCommandWithData_end ..).before_activation ht
  · unfold compareProfile at ht
    split at ht
    · exact absurd ht (not_atActivation_of_ready rfl)
    · exact .inl (atStaging_of_advance ht)
  · have hstaging := atStaging_of_advance ht
    exact .inl hstaging

/-! #### What is sent there -/

/-- A staging step sends DISPLAY_UPDATE_CONTROL_2 with one byte (R153). -/
theorem step_of_atStaging {s : State} (h : s.AtStaging) :
    ∃ b, step s = .next (sendCommandWithData .displayUpdateControl2 [b] s) := by
  rcases h with h | h <;> obtain ⟨op, k, hp, hl⟩ := running_of_label h <;>
    exact ⟨_, step_command hp hl rfl⟩

/-- An activating step sends MASTER_ACTIVATION (R154). -/
theorem step_of_atActivation {s : State} (h : s.AtActivation) :
    step s = .next (sendCommand .masterActivation s) := by
  rcases h with h | h <;> obtain ⟨op, k, hp, hl⟩ := running_of_label h <;>
    exact step_command hp hl rfl

/-- MASTER_ACTIVATION is sent at an activating step only. -/
theorem atActivation_of_commandOf {s : State} {op : Op} {k : Nat} {l : StepLabel} {bs : List Byte}
    (hp : s.seqPos = .running op k) (hl : (stepsOf op)[k]? = some l)
    (hc : commandOf s op l = some (.masterActivation, bs)) : s.AtActivation := by
  rw [State.AtActivation, label_of_running hp, hl]
  cases l
  case a1 => exact .inl rfl
  case s2 => exact .inr rfl
  all_goals simp [commandOf] at hc

/-- The frame before an activating step is sent whole: a fault would have ended the request (R226), and the
activating step itself is left by its one command phase. -/
theorem endsStaged_of_atActivation {s t : State} (h : step s = .next t) (ht : t.AtActivation) :
    EndsStaged s.cfg.opc t.trace := by
  rcases step_before_activation h ht with hs | hs
  · obtain ⟨b, hstep⟩ := step_of_atStaging hs
    cases hstep.symm.trans h
    rcases sendCommandWithData_cases .displayUpdateControl2 (List.cons_ne_nil b []) s with
      ⟨-, -, hsend⟩ | ⟨-, hsend⟩ | ⟨-, -, hsend⟩ <;> rw [hsend] at ht ⊢
    · exact ⟨s.trace, [b], by simp⟩
    · exact absurd ht (not_atActivation_of_ready rfl)
    · exact absurd ht (not_atActivation_of_ready rfl)
  · cases (step_of_atActivation hs).symm.trans h
    rcases sendCommand_cases .masterActivation s with ⟨-, hsend⟩ | ⟨-, hsend⟩ <;> rw [hsend] at ht
    · have hstaging := atStaging_of_advance ht
      exact absurd hs hstaging.not_atActivation
    · exact absurd ht (not_atActivation_of_ready rfl)

/-! #### What is appended -/

/-- Events can be appended if each activation among them comes right after a staged frame. -/
theorem ActivationsStaged.append {o : OpcMap} {tr new : List Event} (h : ActivationsStaged o tr)
    (hnew : ∀ mid post, new = mid ++ .cmd (o.code .masterActivation) :: post → EndsStaged o (tr ++ mid)) :
    ActivationsStaged o (tr ++ new) := by
  intro pre post heq
  rcases List.append_eq_append_iff.mp heq with ⟨mid, rfl, hmid⟩ | ⟨rest, rfl, hrest⟩
  · exact hnew mid post hmid
  · cases rest with
    | nil => simpa [EndsStaged] using hnew [] post hrest.symm
    | cons e rest =>
      obtain ⟨rfl, -⟩ := List.cons_eq_cons.mp hrest
      exact h pre rest rfl

/-- The opcode byte of a frame sent is the first event of the step. -/
theorem FrameSent.eq_nil_of_cmd {s t : State} {c : Command} {bs : List Byte} {b : Byte}
    {new mid post : List Event} (h : FrameSent s t c bs new) (hnew : new = mid ++ .cmd b :: post) :
    mid = [] := by
  cases h with
  | bare | frame | dataFault => simp_all [Cfg.frame, List.cons_eq_append_iff]

/-- A step keeps every activation staged where the trace at an activating step ends in the staged frame. -/
theorem step_keeps_activationsStaged {s t : State} (ho : s.cfg.opc.Injective)
    (hs : ActivationsStaged s.cfg.opc s.trace) (hstaged : s.AtActivation → EndsStaged s.cfg.opc s.trace)
    (h : step s = .next t) : ActivationsStaged s.cfg.opc t.trace := by
  obtain ⟨new, -, htrace, -⟩ := step_follows ho h
  rw [htrace]
  refine hs.append fun mid post hnew => ?_
  obtain ⟨op, k, l, bs, hp, hl, hc, hsent⟩ :=
    step_sent (c := .masterActivation) ho h htrace (by simp [hnew])
  obtain rfl := hsent.eq_nil_of_cmd hnew
  simpa using hstaged (atActivation_of_commandOf hp hl hc)

/-- Settles O54: the activations by `step_keeps_activationsStaged`, the end of the trace at an activating step
by `endsStaged_of_atActivation`. -/
theorem activationsStagedKept : Obligations.ActivationsStagedKept := by
  intro s t _ ho hs hstaged h
  rw [step_cfg h]
  exact ⟨step_keeps_activationsStaged ho hs hstaged h, endsStaged_of_atActivation h⟩

end Sys2Proof.Machine

/-! ### The first command ever sent (42_panel_state_machine.md R175, 70_reset_and_hazards.md R255, R257) -/

namespace Sys2Proof.Machine

/-- Where the engine can stand while no command has been sent: between requests only before `Init` or after a
fault, else at one of I0 to I2 with the pulse, then the idle reading, behind it (R175, R229). -/
def State.Unsent (s : State) : Prop :=
  (s.seqPos = .ready → s.st = .uninitialized ∨ s.st = .faulted) ∧
  (∀ op k, s.seqPos = .running op k → (stepsOf op)[0]? = some .i0 ∧ k ≤ 2 ∧
    (k = 1 → PulsedThen (fun _ => True) s.trace) ∧
    (k = 2 → PulsedThen (fun rest => Event.busy .high ∈ rest) s.trace))

theorem unsent_iff_of_ready {s : State} (hp : s.seqPos = .ready) :
    s.Unsent ↔ s.st = .uninitialized ∨ s.st = .faulted := by
  simp [State.Unsent, hp]

theorem unsent_iff_of_running {s : State} {op : Op} {k : Nat} (hp : s.seqPos = .running op k) :
    s.Unsent ↔ (stepsOf op)[0]? = some .i0 ∧ k ≤ 2 ∧ (k = 1 → PulsedThen (fun _ => True) s.trace) ∧
      (k = 2 → PulsedThen (fun rest => Event.busy .high ∈ rest) s.trace) := by
  simp [State.Unsent, hp]

theorem unsent_transportFault (a : Action) (u : State) : (transportFault a u).Unsent :=
  (unsent_iff_of_ready rfl).mpr (.inr rfl)

/-! #### Events without a command -/

theorem noCommand_append (es new : List Event) :
    noCommand (es ++ new) = (noCommand es && noCommand new) := List.all_append

theorem noCommand_cmd (mid post : List Event) (b : Byte) : noCommand (mid ++ .cmd b :: post) = false := by
  simp [noCommand]

/-- What comes after a pulse still comes after it when events are appended. -/
theorem PulsedThen.append {tail tail' : List Event → Prop} {tr : List Event} (h : PulsedThen tail tr)
    (new : List Event) (htail : ∀ rest, tail rest → tail' (rest ++ new)) : PulsedThen tail' (tr ++ new) := by
  obtain ⟨front, low, settle, rest, hlow, hsettle, rfl, hrest⟩ := h
  exact ⟨front, low, settle, rest ++ new, hlow, hsettle, by simp, htail rest hrest⟩

/-- Events can be appended if the first command among them, where it is the first of all, is SW_RESET after
the pulse and an idle reading. -/
theorem FirstCommandReset.append {o : OpcMap} {tr new : List Event} (h : FirstCommandReset o tr)
    (hnew : noCommand tr = true → ∀ mid b post, new = mid ++ .cmd b :: post →
      b = o.code .swReset ∧ PulsedThen (fun rest => Event.busy .high ∈ rest) (tr ++ mid)) :
    FirstCommandReset o (tr ++ new) := by
  intro pre b post heq hpre
  rcases List.append_eq_append_iff.mp heq with ⟨mid, rfl, hmid⟩ | ⟨rest, rfl, hrest⟩
  · rw [noCommand_append, Bool.and_eq_true] at hpre
    exact hnew hpre.1 mid b post hmid
  · cases rest with
    | nil => simpa using hnew (by simpa using hpre) [] b post hrest.symm
    | cons e rest =>
      obtain ⟨rfl, -⟩ := List.cons_eq_cons.mp hrest
      exact h pre b rest rfl hpre

/-! #### Steps I0 to I2 -/

/-- A step list that begins with I0 begins with the whole of `Init` (R175). -/
theorem stepsOf_init {op : Op} (h : (stepsOf op)[0]? = some .i0) : initSteps <+: stepsOf op := by
  cases op with
  | construct | wake => exact List.prefix_rfl
  | update => exact List.prefix_append ..
  | updateAndDisplay => exact ⟨writeSteps ++ activateSteps, rfl⟩
  | sleep | display | setRefreshProfile => cases h

/-- While no command has been sent, the step to be performed is I0, I1 or I2. -/
theorem label_of_unsent {s : State} {op : Op} {k : Nat} {l : StepLabel} (hs : s.Unsent)
    (hp : s.seqPos = .running op k) (hl : (stepsOf op)[k]? = some l) :
    (k = 0 ∧ l = .i0) ∨ (k = 1 ∧ l = .i1) ∨ (k = 2 ∧ l = .i2) := by
  obtain ⟨hinit, hk, -⟩ := (unsent_iff_of_running hp).mp hs
  obtain ⟨rest, hrest⟩ := stepsOf_init hinit
  rw [← hrest, List.getElem?_append_left (Nat.lt_of_le_of_lt hk (by decide))] at hl
  interval_cases k <;> cases hl <;> simp

/-- While no command has been sent, the one that can be sent is SW_RESET, at I2. -/
theorem command_of_unsent {s : State} {op : Op} {k : Nat} {l : StepLabel} {c : Command} {bs : List Byte}
    (hs : s.Unsent) (hp : s.seqPos = .running op k) (hl : (stepsOf op)[k]? = some l)
    (hc : commandOf s op l = some (c, bs)) : k = 2 ∧ c = .swReset ∧ bs = [] := by
  rcases label_of_unsent hs hp hl with ⟨-, rfl⟩ | ⟨-, rfl⟩ | ⟨rfl, rfl⟩ <;> cases hc
  exact ⟨rfl, rfl, rfl⟩

/-- At I0: the pulse keeps both minimum durations (R257), or it faults. -/
theorem unsent_resetPulse {s : State} {op : Op} (hv : s.cfg.Valid) (hp : s.seqPos = .running op 0)
    (hl : (stepsOf op)[0]? = some .i0) :
    (resetPulse s.cfg.resetLow s.cfg.resetSettle s).Unsent := by
  obtain ⟨hlow, hsettle, -⟩ := hv
  rcases resetPulse_cases s.cfg.resetLow s.cfg.resetSettle s with ⟨-, -, h⟩ | ⟨-, h⟩ | ⟨-, -, h⟩ <;> rw [h]
  · rw [advance_running (by exact hp) hl (i1_after_i0 hl), unsent_iff_of_running rfl]
    exact ⟨hl, by decide, fun _ => ⟨s.trace, _, _, [], hlow, hsettle, by simp, trivial⟩, by simp⟩
  · exact unsent_transportFault ..
  · exact unsent_transportFault ..

/-- At I1: an idle reading leads to I2, a busy one stays, a fault ends the request. -/
theorem unsent_waitIdle {s : State} {op : Op} (hs : s.Unsent) (hp : s.seqPos = .running op 1) :
    (waitIdle s).Unsent := by
  obtain ⟨hinit, -, hpulsed, -⟩ := (unsent_iff_of_running hp).mp hs
  have hi2 : (stepsOf op)[2]? = some .i2 := by
    obtain ⟨rest, hrest⟩ := stepsOf_init hinit
    rw [← hrest]
    rfl
  rcases waitIdle_cases s with ⟨-, -, h⟩ | ⟨-, -, h⟩ | ⟨-, h⟩ <;> rw [h]
  · rw [advance_running (by exact hp) (i1_after_i0 hinit) hi2, unsent_iff_of_running rfl]
    exact ⟨hinit, by decide, by simp, fun _ => (hpulsed rfl).append _ (by simp)⟩
  · exact (unsent_iff_of_running (by exact hp)).mpr
      ⟨hinit, by decide, fun _ => (hpulsed rfl).append _ (by simp), by simp⟩
  · exact unsent_transportFault ..

/-! #### The step -/

/-- Before `Init` only requests that run it are accepted with a step list (R172, R229). -/
theorem unsent_requestBody {i : Instr} {s : State} (hs : s.Unsent) (hp : s.seqPos = .ready)
    (hchecks : precheck i s.st = none) : (requestBody i s).Unsent := by
  have hst := (unsent_iff_of_ready hp).mp hs
  obtain ⟨hlegal, -⟩ := legal_of_precheck hchecks
  have hidle : s.st ≠ .idle := by rcases hst with h | h <;> simp [h]
  cases i with
  | construct | wake | update | updateAndDisplay =>
    exact (unsent_iff_of_running rfl).mpr ⟨rfl, by decide, by simp, by simp⟩
  | display | sleep | setRefreshProfile => exact absurd (eq_idle_of_idleOnly hlegal) hidle
  | setBackgroundColor | width | height => exact (unsent_iff_of_ready hp).mpr hst
  | _ => exact hs

/-- A step that sends no command comes to a state where none has been sent. -/
theorem step_unsent {s t : State} (hv : s.cfg.Valid) (hs : s.Unsent) (h : step s = .next t)
    (hnone : noCommand t.trace = true) : t.Unsent := by
  rcases step_cases h with ⟨-, -, rfl⟩ | ⟨r, rest, hp, -, hx⟩ | ⟨op, hp, hl, rfl⟩ | ⟨op, k, l, hp, hl, hw, rfl⟩ |
    ⟨op, k, l, c, bs, hp, hl, hc, rfl⟩ | ⟨p, hp, -⟩ | ⟨p, hp, -⟩
  · exact hs
  · have hs' : { s with script := rest }.Unsent := hs
    rcases exec_request_next (decodeRequest_command _ _) hx with ⟨why, rfl⟩ | ⟨hchecks, rfl⟩
    · exact hs'
    · exact unsent_requestBody hs' hp hchecks
  · exact unsent_resetPulse hv hp hl
  · rcases label_of_unsent hs hp hl with ⟨-, rfl⟩ | ⟨rfl, -⟩ | ⟨-, rfl⟩
    · simp at hw
    · exact unsent_waitIdle hs hp
    · simp at hw
  · obtain ⟨-, rfl, rfl⟩ := command_of_unsent hs hp hl hc
    rw [sendCommandWithData_nil] at hnone ⊢
    rcases sendCommand_cases .swReset s with ⟨-, hsend⟩ | ⟨-, hsend⟩ <;> rw [hsend] at hnone ⊢
    · simp [noCommand] at hnone
    · exact unsent_transportFault ..
  · cases ((unsent_iff_of_running hp).mp hs).1
  · cases ((unsent_iff_of_running hp).mp hs).1

/-- The first command a step sends is SW_RESET, at I2 and so after the pulse and the idle reading. -/
theorem step_firstCommandReset {s t : State} (hs : FirstCommandReset s.cfg.opc s.trace)
    (hunsent : noCommand s.trace = true → s.Unsent) (h : step s = .next t) :
    FirstCommandReset s.cfg.opc t.trace := by
  cases step_effect h with
  | silent htrace => rwa [htrace]
  | pulse htrace | pulseFaultLow htrace | pulseFaultHigh htrace | idle htrace | busy htrace
  | sampleFault htrace | commandFault _ _ _ _ _ _ _ _ htrace =>
    rw [htrace]
    refine hs.append fun _ mid b post hnew => ?_
    have hnone := noCommand_cmd mid post b
    rw [← hnew] at hnone
    cases hnone
  | command op k l c hp hl hc htrace =>
    rw [htrace]
    refine hs.append fun hnone mid b post hnew => ?_
    have hat := hunsent hnone
    obtain ⟨rfl, rfl, -⟩ := command_of_unsent hat hp hl hc
    obtain ⟨-, -, -, hpulsed⟩ := (unsent_iff_of_running hp).mp hat
    obtain ⟨rfl, hb, -⟩ : mid = [] ∧ _ := by simpa [List.cons_eq_append_iff] using hnew
    exact ⟨hb, by simpa using hpulsed rfl⟩
  | commandData op k l c bs hp hl hc hbs htrace | dataFault op k l c bs hp hl hc hbs htrace =>
    rw [htrace]
    refine hs.append fun hnone _ _ _ _ => ?_
    exact absurd (command_of_unsent (hunsent hnone) hp hl hc).2.2 hbs

/-- Settles O55: the first command by `step_firstCommandReset`; a trace without a command was without one
before the step, so `step_unsent` applies. -/
theorem firstCommandResetKept : Obligations.FirstCommandResetKept := by
  intro s t _ hv hs hunsent h
  refine ⟨by rw [step_cfg h]; exact step_firstCommandReset hs hunsent h, fun hnone => ?_⟩
  obtain ⟨new, _, htrace, -⟩ := observableOnlyGrows s t h
  have hbefore : noCommand s.trace = true := by
    rw [htrace, noCommand_append, Bool.and_eq_true] at hnone
    exact hnone.1
  exact step_unsent hv (hunsent hbefore) h hnone

end Sys2Proof.Machine

/-! ### What a step performs (10_state.md R30, 42_panel_state_machine.md R170, R180) -/

namespace Sys2Proof.Machine

/-- A position whose step performs an instruction runs it. -/
theorem step_performs {s : State} {op : Op} {k : Nat} {l : StepLabel} {i : Instr}
    (hp : s.seqPos = .running op k) (hl : (stepsOf op)[k]? = some l) (h : performs s op l = .instr i s) :
    step s = exec i s := by
  simp only [step, step_at hp hl, h]

/-- Settles O8: what is performed at each position is its row of `performs`. -/
theorem stepRunsCommandOfPosition : Obligations.StepRunsCommandOfPosition := by
  intro s op k l hp hl
  have hrun {i : Instr} (h : performs s op l = .instr i s) : step s = exec i s := step_performs hp hl h
  refine ⟨?_, ?_, ?_, ?_, ?_, ?_, ?_, ?_, ?_, ?_, fun buf => ?_, ?_, ?_, ?_, ?_, fun p => ?_⟩
  case refine_4 | refine_5 | refine_9 | refine_10 | refine_14 => rintro (rfl | rfl) <;> exact hrun rfl
  case refine_11 => rintro rfl (rfl | rfl) <;> exact hrun rfl
  case refine_16 => rintro rfl rfl; exact hrun rfl
  all_goals rintro rfl; exact hrun rfl

/-- A wait is performed at the steps of R180 and no others. -/
theorem performs_eq_wait_iff (s : State) (op : Op) (l : StepLabel) :
    performs s op l = .wait ↔ l ∈ waitLabels := by
  cases l
  case w4 => cases hb : op.buf? <;> simp [performs, hb]
  case p0 | p1 | p2 => cases hp : op.profile? <;> simp [performs, hp]
  all_goals simp [performs]

/-- Settles O12: at a step what is fetched is what it performs (`performs_eq_wait_iff`). -/
theorem waitStepsAreTheTable : Obligations.WaitStepsAreTheTable := by
  intro s op k l hp hl
  rw [step_at hp hl]
  exact performs_eq_wait_iff s op l

/-- Settles O7: the two cases of the fetch at Ready. -/
theorem stepRunsPresentedRequest : Obligations.StepRunsPresentedRequest := by
  refine fun s hp => ⟨fun r rest i hs hi => ?_, step_ready_nil hp⟩
  obtain rfl : decodeRequest r.word r.buf = i := Except.ok.inj hi
  exact step_ready_cons hp hs

end Sys2Proof.Machine

/-! ### Requests accepted and rejected (42_panel_state_machine.md R170 to R174, R183 to R193) -/

namespace Sys2Proof.Machine

/-! #### The checks -/

/-- A request that is legal in the state is neither reserved nor unsupported, and passes with a buffer of the
right length. -/
theorem precheck_of_legal {i : Instr} {st : St} (h : legality i st = .yes) (hlen : badLength i = false) :
    precheck i st = none := by
  have hkind : isReserved i = false ∧ isUnsupported i = false := by
    cases i with
    | reserved | updatePartial | clearFrame => cases h
    | _ => exact ⟨rfl, rfl⟩
  simp [precheck, hkind, h, hlen]

/-- A request that is illegal in the state is one of the three that are legal in `Idle` only. -/
theorem idleOnly_of_illegal {i : Instr} {st : St} (h : legality i st = .no) :
    i = .display ∨ i = .sleep ∨ ∃ p, i = .setRefreshProfile p := by
  cases i with
  | display => exact .inl rfl
  | sleep => exact .inr (.inl rfl)
  | setRefreshProfile p => exact .inr (.inr ⟨p, rfl⟩)
  | _ => cases h

theorem precheck_of_illegal {i : Instr} {st : St} (h : legality i st = .no) :
    precheck i st = some .illegalState := by
  rcases idleOnly_of_illegal h with rfl | rfl | ⟨p, rfl⟩ <;> simp [precheck, isReserved, isUnsupported, h]

/-- Settles O29: an illegal request has neither a buffer nor a code that is always rejected; a legal one with a
buffer is neither reserved nor unsupported, and no request is both of these. -/
theorem atMostOneCheckFails : Obligations.AtMostOneCheckFails := by
  intro i st
  by_cases h : legality i st = .no
  · rcases idleOnly_of_illegal h with rfl | rfl | ⟨p, rfl⟩ <;>
      simp [isReserved, isUnsupported, badLength, h]
  · have hlegal : (legality i st == .no) = false := by simpa using h
    rw [hlegal]
    cases i with
    | update buf | updateAndDisplay buf =>
      simp only [isReserved, isUnsupported]
      cases badLength _ <;> decide
    | _ => simp [isReserved, isUnsupported, badLength]

/-! #### Between requests -/

section
variable {i : Instr} {s : State}

theorem exec_accepted (hi : i.command? = none) (hp : s.seqPos = .ready) (ht : s.st.transient = false)
    (h : legality i s.st = .yes) (hlen : badLength i = false) : exec i s = .next (requestBody i s) := by
  rw [exec_eq_request hi]
  exact request_accepted hp ht (precheck_of_legal h hlen)

theorem exec_rejected {why : Why} (hi : i.command? = none) (hp : s.seqPos = .ready)
    (ht : s.st.transient = false) (h : precheck i s.st = some why) :
    exec i s = .next { s with results := s.results ++ [.preconditionViolation why] } := by
  rw [exec_eq_request hi]
  exact request_rejected hp ht h

end

/-- Settles O20: each is legal in every state, and its list begins with I0. -/
theorem initRequestsStart : Obligations.InitRequestsStart := fun _ hp ht =>
  ⟨exec_accepted rfl hp ht rfl rfl, exec_accepted rfl hp ht rfl rfl, fun _ hlen =>
    ⟨exec_accepted rfl hp ht rfl (bne_eq_false_iff_eq.mpr hlen),
      exec_accepted rfl hp ht rfl (bne_eq_false_iff_eq.mpr hlen)⟩⟩

/-- Settles O21: each is legal in `Idle`; only A0 sets ST. -/
theorem idleRequestsStart : Obligations.IdleRequestsStart := by
  intro s hp hst
  have ht : s.st.transient = false := by rw [hst]; rfl
  have hidle : idleOnly s.st = .yes := if_pos hst
  exact ⟨exec_accepted rfl hp ht hidle rfl, exec_accepted rfl hp ht hidle rfl,
    fun p => exec_accepted (i := .setRefreshProfile p) rfl hp ht hidle rfl⟩

/-- Settles O26: the third check fails outside `Idle`. -/
theorem illegalStateRejected : Obligations.IllegalStateRejected := by
  intro s hp ht hst
  have hno : idleOnly s.st = .no := if_neg hst
  exact ⟨exec_rejected rfl hp ht (precheck_of_illegal hno), exec_rejected rfl hp ht (precheck_of_illegal hno),
    fun p => exec_rejected rfl hp ht (precheck_of_illegal (i := .setRefreshProfile p) hno)⟩

/-- Settles O23: the word's code selects the request, which is legal in every state. -/
theorem geometryAnswered : Obligations.GeometryAnswered := by
  intro s w buf hp ht
  obtain ⟨-, -, -, -, -, -, -, -, -, -, hwidth, hheight, -⟩ := requestCodesSelect w buf
  exact ⟨fun h => ⟨hwidth h, exec_accepted rfl hp ht rfl rfl⟩,
    fun h => ⟨hheight h, exec_accepted rfl hp ht rfl rfl⟩⟩

/-- Settles O24: the word's code selects the request, whose second check always fails. -/
theorem unsupportedRejected : Obligations.UnsupportedRejected := by
  intro s w buf hp ht
  obtain ⟨-, -, -, -, -, -, -, -, -, -, -, -, hpartial, hclear, -⟩ := requestCodesSelect w buf
  exact ⟨fun h => ⟨hpartial h, exec_rejected rfl hp ht rfl⟩, fun h => ⟨hclear h, exec_rejected rfl hp ht rfl⟩⟩

/-- Settles O25: the first check always fails. -/
theorem reservedRejected : Obligations.ReservedRejected := fun _ _ hp ht => exec_rejected rfl hp ht rfl

/-- Settles O30: SEQ_POS and ST are looked at before any check. -/
theorem requestsOutOfTurnRefused : Obligations.RequestsOutOfTurnRefused := by
  intro s i hi
  rw [exec_eq_request hi]
  exact ⟨fun op k hp => by simp [request, hp], fun hp ht => by simp [request, hp, ht]⟩

end Sys2Proof.Machine

/-! ### The background colour (42_panel_state_machine.md R188) -/

namespace Sys2Proof.Machine

theorem decodeRequest_setBackgroundColor {w : Byte} {color : Color} (h : reqCode w = 7)
    (harg : reqArg w = color.toBit) (buf : List Byte) :
    decodeRequest w buf = .setBackgroundColor color := by
  obtain ⟨-, -, -, -, -, -, -, -, hblack, hwhite, -⟩ := requestCodesSelect w buf
  cases color with
  | black => exact hblack h harg
  | white => exact hwhite h harg

/-- Runs from states that agree but for what no rule reads end in such states. -/
theorem run_sameButUnread {s t u : State} {n : Nat} (hst : SameButUnread s t) (h : run n s = .next u) :
    ∃ v, run n t = .next v ∧ SameButUnread u v := by
  induction n generalizing s t with
  | zero =>
    cases h
    exact ⟨t, rfl, hst⟩
  | succ n ih =>
    obtain ⟨s', hs, hrun⟩ := run_succ_cases h
    have hsame := unreadStateIsInvisible s t hst
    rw [hs] at hsame
    cases ht : step t with
    | next t' =>
      rw [ht] at hsame
      rw [run_succ n ht]
      exact ih hsame hrun
    | fault r => rw [ht] at hsame; cases hsame
    | refused r => rw [ht] at hsame; cases hsame

/-- Settles O22: the colour is stored by the body of an accepted request; later runs agree in all but what no
rule reads (`run_sameButUnread`). -/
theorem backgroundColorStored : Obligations.BackgroundColorStored := by
  intro s w buf color hp ht hcode harg
  refine ⟨decodeRequest_setBackgroundColor hcode harg buf, _,
    exec_accepted (i := .setBackgroundColor color) rfl hp ht rfl rfl, rfl, fun other n u hrun => ?_, ?_⟩
  · have hsame (t : State) : SameButUnread t { t with bg := other } := rfl
    obtain ⟨v, hv, huv⟩ := run_sameButUnread (hsame _) hrun
    obtain ⟨bg, ctl, rfl⟩ := sameButUnread_iff.mp huv
    exact ⟨_, hv, rfl, rfl⟩
  · exact ⟨_, exec_accepted (i := .construct) rfl hp ht rfl rfl, rfl⟩

end Sys2Proof.Machine

/-! ### Changes of ST (42_panel_state_machine.md R178) -/

namespace Sys2Proof.Machine

/-- ST stays, or changes along a row of R178, or along two rows through `Idle` (log 6). -/
def StChange (a b : St) : Prop :=
  b = a ∨ stEdge a b = true ∨ (a = .initializing ∧ b = .writing) ∨ (a = .writing ∧ b = .activating)

theorem stChange_refl (a : St) : StChange a a := .inl rfl

/-- Along every step list ST changes so from each step to the next. -/
theorem stepsOf_stChange (op : Op) : (stepsOf op).IsChain fun l l' => StChange (stAt l) (stAt l') := by
  cases op <;> simp only [stepsOf, StChange] <;> decide

/-- At the end of every step list ST changes so. -/
theorem stChange_getLast (op : Op) :
    ∀ l ∈ (stepsOf op).getLast?, StChange (stAt l) (stLeaving l (stAt l)) := by
  cases op <;> simp only [stepsOf, StChange] <;> decide

theorem getLast?_of_last {op : Op} {k : Nat} {l : StepLabel} (hl : (stepsOf op)[k]? = some l)
    (hlast : (stepsOf op)[k + 1]? = none) : (stepsOf op).getLast? = some l := by
  have hk := (List.getElem?_eq_some_iff.mp hl).1
  have hlen := List.getElem?_eq_none_iff.mp hlast
  rw [List.getLast?_eq_getElem?, show (stepsOf op).length - 1 = k by omega, hl]

/-- The advance of SEQ_POS to the next step or to the end of the list. -/
theorem stChange_advance {u : State} {op : Op} {k : Nat} {l : StepLabel} (hp : u.seqPos = .running op k)
    (hl : (stepsOf op)[k]? = some l) (hst : u.st = stAt l) : StChange u.st (advance u).st := by
  rw [hst]
  cases hl' : (stepsOf op)[k + 1]? with
  | some l' =>
    have hnext : (advance u).st = stAt l' := by
      rw [advance_running hp hl hl', hst]
      exact stLinked_of_succ hl hl'
    rw [hnext]
    obtain ⟨_, rfl⟩ := List.getElem?_eq_some_iff.mp hl
    obtain ⟨hk, rfl⟩ := List.getElem?_eq_some_iff.mp hl'
    exact List.isChain_iff_getElem.mp (stepsOf_stChange op) k hk
  | none =>
    rw [advance_last hp hl hl', hst]
    exact stChange_getLast op l (getLast?_of_last hl hl')

/-- A fault can end a request at every step (R226). -/
theorem stChange_faulted (l : StepLabel) : StChange (stAt l) .faulted := by
  cases l <;> exact .inr (.inl rfl)

/-- A primitive performed at a step changes ST so, whichever way it ends. -/
theorem PrimitiveEnd.stChange {s t : State} {op : Op} {k : Nat} {l : StepLabel} (hend : PrimitiveEnd s t)
    (hp : s.seqPos = .running op k) (hl : (stepsOf op)[k]? = some l) (hst : s.st = stAt l) :
    StChange s.st t.st := by
  cases hend with
  | advance u hu =>
    rw [← hu.st]
    exact stChange_advance (hu.seqPos.trans hp) hl (hu.st.trans hst)
  | fault a u hu => exact hst ▸ stChange_faulted l
  | stay t hu => exact .inl hu.st

/-- An accepted request leaves ST, or enters I0 from a value that is not transient, or A0 from `Idle`. -/
theorem stChange_requestBody {i : Instr} {s : State} (ht : s.st.transient = false)
    (hchecks : precheck i s.st = none) : StChange s.st (requestBody i s).st := by
  have hinit : StChange s.st .initializing := by
    cases hst : s.st with
    | uninitialized | idle | sleeping | faulted => exact .inr (.inl rfl)
    | initializing | writing | activating => rw [hst] at ht; cases ht
  cases i with
  | construct | wake | update | updateAndDisplay => exact hinit
  | display =>
    have hidle : s.st = .idle := eq_idle_of_idleOnly (legal_of_precheck hchecks).1
    exact .inr (.inl (by rw [hidle]; rfl))
  | _ => exact stChange_refl _

/-- Settles O47: a request by `stChange_requestBody`; a running one by its step: a primitive, or P0 or P2, at
which ST is `Idle`. -/
theorem stChangesAreTheTable : Obligations.StChangesAreTheTable := by
  intro s t hinv h
  change StChange s.st t.st
  cases hp : s.seqPos with
  | ready =>
    obtain ⟨ht, -⟩ := (inv_iff_of_ready hp).mp hinv
    cases hs : s.script with
    | nil =>
      cases (step_ready_nil hp hs).symm.trans h
      exact stChange_refl _
    | cons r rest =>
      rw [step_ready_cons hp hs] at h
      rcases exec_request_next (decodeRequest_command _ _) h with ⟨why, rfl⟩ | ⟨hchecks, rfl⟩
      · exact stChange_refl _
      · have ht' : { s with script := rest }.st.transient = false := ht
        exact stChange_requestBody ht' hchecks
  | running op k =>
    obtain ⟨l, hl, hst, -⟩ := (inv_iff_of_running hp).mp hinv
    rcases step_at_label hp hl with ⟨-, u, hu, hend⟩ | ⟨p, -, hu⟩ | ⟨p, -, hu⟩ <;> cases hu.symm.trans h
    · exact hend.stChange hp hl hst
    · unfold compareProfile
      split
      · exact stChange_refl _
      · exact stChange_advance hp hl hst
    · exact stChange_advance (u := { s with profile := p }) hp hl hst

end Sys2Proof.Machine

/-! ### UPDATE_AND_DISPLAY begins as UPDATE (42_panel_state_machine.md R185) -/

namespace Sys2Proof.Machine

/-- The step list of UPDATE_AND_DISPLAY is that of UPDATE, then that of DISPLAY (R185). -/
theorem stepsOf_updateAndDisplay (buf : List Byte) :
    stepsOf (.updateAndDisplay buf) = stepsOf (.update buf) ++ stepsOf .display := rfl

theorem stepsOf_update_length (buf : List Byte) : (stepsOf (.update buf)).length = 19 := rfl

/-- Before W4 the two requests perform the same. -/
theorem update_sameAt_updateAndDisplay (buf : List Byte) {k : Nat} (hk : k < 18) :
    (Op.update buf).SameAt (.updateAndDisplay buf) k where
  label := by
    rw [stepsOf_updateAndDisplay, List.getElem?_append_left (by rw [stepsOf_update_length]; omega)]
  next := by
    rw [stepsOf_updateAndDisplay, List.getElem?_append_left (by rw [stepsOf_update_length]; omega)]
  buf := rfl
  noProfile := ⟨rfl, rfl⟩

/-- The operation ends a step alike wherever SEQ_POS stands: it advances from the same state, or the same
fault ends the request. -/
def EndsAlike (f : State → State) : Prop := ∀ p s,
  (∃ u, u.seqPos = s.seqPos ∧ f s = advance u ∧ f (s.atPos p) = advance (u.atPos p)) ∨
  (∃ a u, f s = transportFault a u ∧ f (s.atPos p) = transportFault a u)

theorem Positionless.endsAlike {g : State → State} (hg : Positionless g) :
    EndsAlike fun s => advance (g s) :=
  fun p s => .inl ⟨g s, hg.seqPos_eq s, rfl, congrArg advance (hg p s)⟩

theorem EndsAlike.comp {f g : State → State} (hf : EndsAlike f) (hg : Positionless g) :
    EndsAlike fun s => f (g s) := by
  intro p s
  simpa only [hg p s, hg.seqPos_eq s] using hf p (g s)

/-- An action decided by the environment alone, whichever way it goes on. -/
theorem EndsAlike.attempt (a : Action) {lost ok : State → State} (hlost : Positionless lost)
    (hok : EndsAlike ok) : EndsAlike (attempt a lost ok) := by
  intro p s
  cases h : s.env.faultAt 0 with
  | false =>
    rw [attempt_quiet h, attempt_quiet (s := s.atPos p) h]
    exact hok p { s with env := s.env.after 1 0 }
  | true =>
    refine .inr ⟨a, _, attempt_fault h, ?_⟩
    have hmoved := congrArg (transportFault a) (hlost p { s with env := s.env.after 1 0 })
    exact (attempt_fault (s := s.atPos p) h).trans hmoved

theorem endsAlike_sendCommandWithData (c : Command) (bs : List Byte) :
    EndsAlike (sendCommandWithData c bs) := by
  intro p s
  unfold sendCommandWithData
  split
  · have hsent : EndsAlike fun s => advance ((commandPhase c s).ctlWrite c []) :=
      Positionless.endsAlike fun _ _ => rfl
    exact hsent.attempt (.cmd (s.cfg.opc.code c)) (positionless_ctlForget c) p s
  · have hdata : EndsAlike fun s => advance (dataPhase c bs s) := Positionless.endsAlike fun _ _ => rfl
    have hcommand : Positionless (commandPhase c) := fun _ _ => rfl
    exact ((hdata.attempt .data (positionless_ctlForget c)).comp hcommand).attempt
      (.cmd (s.cfg.opc.code c)) (positionless_ctlForget c) p s

/-- Settles O40: before W4 by `step_withOp`; at W4 both send the buffer (`endsAlike_sendCommandWithData`) and
differ in what comes after. -/
theorem updateAndDisplayBeginsAsUpdate : Obligations.UpdateAndDisplayBeginsAsUpdate := by
  intro s t buf k hp hs
  refine ⟨fun hk => step_withOp (update_sameAt_updateAndDisplay buf hk) hp hs, ?_⟩
  rintro rfl
  rw [withOp_of_running hp]
  have hupdate := step_command (bs := buf) (c := .writeRam) hp rfl rfl
  have hboth : step (s.atPos (.running (.updateAndDisplay buf) 18)) =
      .next (sendCommandWithData .writeRam buf (s.atPos (.running (.updateAndDisplay buf) 18))) :=
    step_command (l := .w4) rfl rfl rfl
  cases hupdate.symm.trans hs
  refine ⟨_, hboth, ?_⟩
  rcases endsAlike_sendCommandWithData .writeRam buf (.running (.updateAndDisplay buf) 18) s with
    ⟨u, hu, h, h'⟩ | ⟨a, u, h, h'⟩ <;> rw [h, h']
  · rw [advance_last (hu.trans hp) (l := .w4) rfl rfl,
      advance_running (s := u.atPos (.running (.updateAndDisplay buf) 18)) (l := .w4) (l' := .a0) rfl rfl rfl]
    refine ⟨rfl, rfl, fun hfaulted => ?_, fun _ => ⟨rfl, rfl⟩⟩
    cases hfaulted
  · refine ⟨rfl, rfl, fun _ => rfl, fun hidle => ?_⟩
    cases hidle

end Sys2Proof.Machine

/-! ### Whole requests with no fault (42_panel_state_machine.md R173 to R187, D8) -/

namespace Sys2Proof.Machine

/-! #### The work of one step -/

/-- What a step of a running request performs, with how often a wait reads busy. -/
inductive Work
  | pulse
  | wait (busy : Nat)
  | bare (c : Command)
  | frame (c : Command) (bs : List Byte)

/-- The work of a numbered step: the pulse, a wait, or the command that `commandOf` names. -/
inductive Performs (s : State) (op : Op) : StepLabel → Work → Prop
  | pulse : Performs s op .i0 .pulse
  | wait {l : StepLabel} (n : Nat) : l ∈ waitLabels → Performs s op l (.wait n)
  | bare {l : StepLabel} {c : Command} : commandOf s op l = some (c, []) → Performs s op l (.bare c)
  | frame {l : StepLabel} {c : Command} {bs : List Byte} : commandOf s op l = some (c, bs) → bs ≠ [] →
      Performs s op l (.frame c bs)

/-- How many steps of the machine it takes. -/
def Work.steps : Work → Nat
  | .wait n => n + 1
  | .pulse | .bare _ | .frame _ _ => 1

/-- How many actions it has that can fault. -/
def Work.actions : Work → Nat
  | .wait n => n + 1
  | .pulse | .frame _ _ => 2
  | .bare _ => 1

/-- What its samples read. -/
def Work.readings : Work → List Level
  | .wait n => waits n
  | .pulse | .bare _ | .frame _ _ => []

/-- Its events (R94, R90). -/
def Work.events (cfg : Cfg) : Work → List Event
  | .pulse => cfg.pulse
  | .wait n => cfg.poll n
  | .bare c => [.cmd (cfg.opc.code c)]
  | .frame c bs => cfg.frame c bs

/-- The shadow after it (R37, R38). -/
def Work.ctl (cfg : Cfg) (t : Ctl) : Work → Ctl
  | .pulse => Ctl.allUnknown
  | .wait _ => t
  | .bare c => t.sent cfg c []
  | .frame c bs => t.sent cfg c bs

/-- The reset line after it. -/
def Work.rst (l : Level) : Work → Level
  | .pulse => .high
  | .wait _ | .bare _ | .frame _ _ => l

/-- The select line after it. -/
def Work.dc (l : Level) : Work → Level
  | .bare _ | .frame _ _ => .high
  | .pulse | .wait _ => l

/-! #### The work of several steps -/

/-- How many steps of the machine they take. -/
def stepCount (ws : List Work) : Nat := (ws.map Work.steps).sum

/-- How many actions they have that can fault. -/
def actionCount (ws : List Work) : Nat := (ws.map Work.actions).sum

/-- What their samples read. -/
def readings (ws : List Work) : List Level := ws.flatMap Work.readings

/-- The state after they have been performed, but for ST and SEQ_POS. -/
def State.worked (ws : List Work) (s : State) : State := { s with
  rst := ws.foldl Work.rst s.rst
  dc := ws.foldl Work.dc s.dc
  ctl := ws.foldl (Work.ctl s.cfg) s.ctl
  trace := s.trace ++ ws.flatMap (Work.events s.cfg)
  env := s.env.after (actionCount ws) (readings ws).length }

theorem stepCount_cons (w : Work) (ws : List Work) : stepCount (w :: ws) = w.steps + stepCount ws := rfl

@[simp] theorem stepCount_append (ws ws' : List Work) :
    stepCount (ws ++ ws') = stepCount ws + stepCount ws' := by simp [stepCount]

@[simp] theorem actionCount_append (ws ws' : List Work) :
    actionCount (ws ++ ws') = actionCount ws + actionCount ws' := by simp [actionCount]

@[simp] theorem readings_append (ws ws' : List Work) :
    readings (ws ++ ws') = readings ws ++ readings ws' := by simp [readings]

@[simp] theorem worked_nil (s : State) : s.worked [] = s := by
  simp [State.worked, actionCount, readings]

theorem worked_append (ws ws' : List Work) (s : State) :
    s.worked (ws ++ ws') = (s.worked ws).worked ws' := by
  simp [State.worked, actionCount, readings]

theorem worked_cons (w : Work) (ws : List Work) (s : State) :
    s.worked (w :: ws) = (s.worked [w]).worked ws := worked_append [w] ws s

/-- What a step performs hangs on CFG and SLEEP_DEPTH. -/
theorem Performs.congr {s t : State} {op : Op} {l : StepLabel} {w : Work} (h : Performs s op l w)
    (hcfg : t.cfg = s.cfg) (hdepth : t.sleepDepth = s.sleepDepth) : Performs t op l w := by
  have hcommand : commandOf t op l = commandOf s op l := by
    cases l <;> simp only [commandOf, hcfg, hdepth]
  cases h with
  | pulse => exact .pulse
  | wait n hw => exact .wait n hw
  | bare hc => exact .bare (hcommand.trans hc)
  | frame hc hb => exact .frame (hcommand.trans hc) hb

theorem sendCommand_quiet (c : Command) {s : State} (h : s.env.faultAt 0 = false) :
    sendCommand c s = advance (s.worked [.bare c]) := attempt_quiet h

theorem sendCommandWithData_quiet (c : Command) {bs : List Byte} (hb : bs ≠ []) {s : State}
    (h : s.env.Quiet 2) : sendCommandWithData c bs s = advance (s.worked [.frame c bs]) := by
  have hsent : sendCommandWithData c bs s =
      advance (dataPhase c bs (commandPhase c { s with env := s.env.after 2 0 })) := by
    simpa [h 0, h 1] using sendCommandWithData_cases c hb s
  rw [hsent]
  simp [State.worked, dataPhase, commandPhase, State.emit, State.ctlWrite, Work.rst, Work.dc, Work.ctl,
    Work.events, Cfg.frame, actionCount, Work.actions, readings, Work.readings]

/-- The work of a step is performed up to the advance of SEQ_POS. -/
theorem run_work {s : State} {op : Op} {k : Nat} {l : StepLabel} {w : Work}
    (hp : s.seqPos = .running op k) (hl : (stepsOf op)[k]? = some l) (hw : Performs s op l w)
    (hq : s.env.Quiet w.actions) (hr : s.env.Reads w.readings) :
    run w.steps s = .next (advance (s.worked [w])) := by
  cases hw with
  | pulse =>
    rw [Work.steps, run_one (step_reset hp hl), resetPulse_quiet _ _ hq]
    rfl
  | wait n hwait =>
    rw [Work.steps, waitIdleReturnsAtFirstIdle s op k n l hp hl hwait hq hr]
    simp [State.worked, actionCount, readings, Work.actions, Work.readings, Work.events, Work.ctl,
      Work.rst, Work.dc, waits]
  | @bare l c hc =>
    have hquiet : s.env.faultAt 0 = false := hq 0 Nat.one_pos
    rw [Work.steps, run_one (step_command hp hl hc), sendCommandWithData_nil, sendCommand_quiet c hquiet]
  | @frame l c bs hc hb =>
    rw [Work.steps, run_one (step_command hp hl hc), sendCommandWithData_quiet c hb hq]

/-- The work of the steps left on the list is performed up to the end of the request. -/
theorem run_works {s : State} {op : Op} {k : Nat} {ws : List Work} {last : St}
    (hp : s.seqPos = .running op k) (hws : List.Forall₂ (Performs s op) ((stepsOf op).drop k) ws)
    (hne : ws ≠ []) (hq : s.env.Quiet (actionCount ws)) (hr : s.env.Reads (readings ws))
    (hlast : ∀ l ∈ (stepsOf op).getLast?, ∀ st, stLeaving l st = last) :
    run (stepCount ws) s = .next (finish { s.worked ws with st := last }) := by
  induction ws generalizing s k with
  | nil => exact absurd rfl hne
  | cons w ws ih =>
    obtain ⟨l, ls, hw, hrest, hdrop⟩ := List.forall₂_cons_right_iff.mp hws
    have hl : (stepsOf op)[k]? = some l := by rw [← List.head?_drop, hdrop, List.head?_cons]
    have hls : (stepsOf op).drop (k + 1) = ls := by rw [← List.tail_drop, hdrop, List.tail_cons]
    rw [← List.singleton_append, readings_append] at hr
    obtain ⟨hread, hrs⟩ := (Env.reads_append w.actions).mp hr
    have hquiet : s.env.Quiet (w.actions + actionCount ws) := hq
    have hrun := run_work hp hl hw (hquiet.mono (Nat.le_add_right ..)) (by simpa [readings] using hread)
    rw [stepCount_cons, run_add _ hrun, worked_cons w ws]
    cases hrest with
    | nil =>
      have hend : (stepsOf op)[k + 1]? = none := List.getElem?_eq_none_iff.mpr (List.drop_eq_nil_iff.mp hls)
      rw [advance_last (s := s.worked [w]) hp hl hend, hlast l (getLast?_of_last hl hend), worked_nil]
      rfl
    | @cons l' w' ls' ws' hw' hrest' =>
      have hl' : (stepsOf op)[k + 1]? = some l' := by rw [← List.head?_drop, hls, List.head?_cons]
      rw [advance_running (s := s.worked [w]) hp hl hl']
      exact ih rfl (hls ▸ (List.Forall₂.cons hw' hrest').imp fun _ _ h => h.congr rfl rfl)
        (by simp) (hquiet.after _) hrs

/-- A request accepted at the first step of its list performs the whole of it and returns `Ok`. -/
theorem performed_works {i : Instr} {op : Op} {s u : State} {ws : List Work} {st last : St}
    (hx : exec i s = .next { u with st := st, seqPos := .running op 0 })
    (hws : List.Forall₂ (Performs u op) (stepsOf op) ws) (hq : u.env.Quiet (actionCount ws))
    (hr : u.env.Reads (readings ws)) (hlast : ∀ l ∈ (stepsOf op).getLast?, ∀ st, stLeaving l st = last) :
    performed i (stepCount ws) s = .next (finish { u.worked ws with st := last }) := by
  have hne : ws ≠ [] := by
    rintro rfl
    cases op <;> cases hws
  simp only [performed, hx]
  exact run_works rfl (hws.imp fun _ _ h => h.congr rfl rfl) hne hq hr hlast

/-! #### The four sub-sequences -/

/-- `Init` (R175), its three waits reading busy `n1`, `n3` and `n13` times. -/
def initWork (cfg : Cfg) (n1 n3 n13 : Nat) : List Work :=
  [.pulse, .wait n1, .bare .swReset, .wait n3, .frame .driverOutputControl cfg.payDoc,
    .frame .dataEntryMode cfg.payDem, .frame .setRamXWindow cfg.payXwin, .frame .setRamYWindow cfg.payYwin,
    .frame .borderWaveformControl [cfg.payBorder], .frame .displayUpdateControl1 cfg.payDuc1,
    .frame .tempSensorControl cfg.payTemp, .frame .setRamXCounter cfg.payXctr,
    .frame .setRamYCounter cfg.payYctr, .wait n13]

/-- Steps W0 to W4 (R183). -/
def writeWork (cfg : Cfg) (buf : List Byte) : List Work :=
  [.frame .setRamXWindow cfg.payXwin, .frame .setRamYWindow cfg.payYwin, .frame .setRamXCounter cfg.payXctr,
    .frame .setRamYCounter cfg.payYctr, .frame .writeRam buf]

/-- DISPLAY (R184), its wait reading busy `n` times. -/
def activateWork (cfg : Cfg) (n : Nat) : List Work :=
  [.frame .displayUpdateControl2 [cfg.payDuc2Full], .bare .masterActivation, .wait n]

/-- SLEEP (R186), its wait reading busy `n` times. -/
def sleepWork (cfg : Cfg) (d : SleepDepth) (n : Nat) : List Work :=
  [.wait n, .frame .displayUpdateControl2 [cfg.payDuc2Sleep], .bare .masterActivation,
    .frame .deepSleepMode (cfg.paySleep d)]

theorem performs_init {s : State} (hv : s.cfg.Valid) (op : Op) (n1 n3 n13 : Nat) :
    List.Forall₂ (Performs s op) initSteps (initWork s.cfg n1 n3 n13) := by
  obtain ⟨-, -, -, hdoc, hdem, hxwin, hywin, hxctr, hyctr, hduc1, htemp, -⟩ := hv
  simp only [initSteps, initWork, List.forall₂_cons, List.forall₂_nil_left_iff, and_true]
  exact ⟨.pulse, .wait n1 (by decide), .bare rfl, .wait n3 (by decide), .frame rfl hdoc, .frame rfl hdem,
    .frame rfl hxwin, .frame rfl hywin, .frame rfl (by simp), .frame rfl hduc1, .frame rfl htemp,
    .frame rfl hxctr, .frame rfl hyctr, .wait n13 (by decide)⟩

theorem performs_write {s : State} (hv : s.cfg.Valid) {op : Op} {buf : List Byte} (hop : op.buf? = some buf)
    (hbuf : buf ≠ []) : List.Forall₂ (Performs s op) writeSteps (writeWork s.cfg buf) := by
  obtain ⟨-, -, -, -, -, hxwin, hywin, hxctr, hyctr, -⟩ := hv
  simp only [writeSteps, writeWork, List.forall₂_cons, List.forall₂_nil_left_iff, and_true]
  exact ⟨.frame rfl hxwin, .frame rfl hywin, .frame rfl hxctr, .frame rfl hyctr,
    .frame (by rw [commandOf, hop]; rfl) hbuf⟩

theorem performs_activate (s : State) (op : Op) (n : Nat) :
    List.Forall₂ (Performs s op) activateSteps (activateWork s.cfg n) := by
  simp only [activateSteps, activateWork, List.forall₂_cons, List.forall₂_nil_left_iff, and_true]
  exact ⟨.frame rfl (by simp), .bare rfl, .wait n (by decide)⟩

theorem performs_sleep {s : State} (hv : s.cfg.Valid) (op : Op) (n : Nat) :
    List.Forall₂ (Performs s op) sleepSteps (sleepWork s.cfg s.sleepDepth n) := by
  obtain ⟨-, -, -, -, -, -, -, -, -, -, -, -, hretain, hnoRetain, -⟩ := hv
  have hdepth : s.cfg.paySleep s.sleepDepth ≠ [] := by cases s.sleepDepth <;> assumption
  simp only [sleepSteps, sleepWork, List.forall₂_cons, List.forall₂_nil_left_iff, and_true]
  exact ⟨.wait n (by decide), .frame rfl (by simp), .bare rfl, .frame rfl hdepth⟩

/-! #### What they add up to -/

@[simp] theorem waits_length (n : Nat) : (waits n).length = n + 1 := by simp [waits]

@[simp] theorem stepCount_init (cfg : Cfg) (n1 n3 n13 : Nat) :
    stepCount (initWork cfg n1 n3 n13) = 14 + (n1 + n3 + n13) := by
  simp +arith [stepCount, initWork, Work.steps]

@[simp] theorem actionCount_init (cfg : Cfg) (n1 n3 n13 : Nat) :
    actionCount (initWork cfg n1 n3 n13) = 24 + (n1 + n3 + n13) := by
  simp +arith [actionCount, initWork, Work.actions]

@[simp] theorem readings_init (cfg : Cfg) (n1 n3 n13 : Nat) :
    readings (initWork cfg n1 n3 n13) = waits n1 ++ waits n3 ++ waits n13 := by
  simp [readings, initWork, Work.readings]

theorem worked_init (s : State) (n1 n3 n13 : Nat) : s.worked (initWork s.cfg n1 n3 n13) = { s with
    rst := .high
    dc := .high
    ctl := Ctl.afterInit s.cfg
    trace := s.trace ++ s.cfg.initTrace n1 n3 n13
    env := s.env.after (24 + (n1 + n3 + n13)) (3 + (n1 + n3 + n13)) } := by
  have hsamples : (readings (initWork s.cfg n1 n3 n13)).length = 3 + (n1 + n3 + n13) := by
    simp +arith
  have hevents : (initWork s.cfg n1 n3 n13).flatMap (Work.events s.cfg) = s.cfg.initTrace n1 n3 n13 := by
    simp [initWork, Work.events, Cfg.initTrace]
  rw [State.worked, hsamples, hevents, actionCount_init]
  rfl

@[simp] theorem stepCount_write (cfg : Cfg) (buf : List Byte) : stepCount (writeWork cfg buf) = 5 := rfl

@[simp] theorem actionCount_write (cfg : Cfg) (buf : List Byte) : actionCount (writeWork cfg buf) = 10 := rfl

@[simp] theorem readings_write (cfg : Cfg) (buf : List Byte) : readings (writeWork cfg buf) = [] := rfl

theorem worked_write (s : State) (buf : List Byte) : s.worked (writeWork s.cfg buf) = { s with
    dc := .high
    ctl := s.ctl.afterWrite s.cfg buf
    trace := s.trace ++ s.cfg.writeTrace buf
    env := s.env.after 10 0 } := by
  have hevents : (writeWork s.cfg buf).flatMap (Work.events s.cfg) = s.cfg.writeTrace buf := by
    simp [writeWork, Work.events, Cfg.writeTrace]
  rw [State.worked, hevents]
  rfl

@[simp] theorem stepCount_activate (cfg : Cfg) (n : Nat) : stepCount (activateWork cfg n) = 3 + n := by
  simp +arith [stepCount, activateWork, Work.steps]

@[simp] theorem actionCount_activate (cfg : Cfg) (n : Nat) : actionCount (activateWork cfg n) = 4 + n := by
  simp +arith [actionCount, activateWork, Work.actions]

@[simp] theorem readings_activate (cfg : Cfg) (n : Nat) : readings (activateWork cfg n) = waits n := by
  simp [readings, activateWork, Work.readings]

theorem worked_activate (s : State) (n : Nat) : s.worked (activateWork s.cfg n) = { s with
    dc := .high
    ctl := s.ctl.afterActivate s.cfg
    trace := s.trace ++ s.cfg.activateTrace n
    env := s.env.after (4 + n) (1 + n) } := by
  have hevents : (activateWork s.cfg n).flatMap (Work.events s.cfg) = s.cfg.activateTrace n := by
    simp [activateWork, Work.events, Cfg.activateTrace]
  rw [State.worked, hevents, actionCount_activate, readings_activate, waits_length, Nat.add_comm n 1]
  rfl

@[simp] theorem stepCount_sleep (cfg : Cfg) (d : SleepDepth) (n : Nat) :
    stepCount (sleepWork cfg d n) = 4 + n := by
  simp +arith [stepCount, sleepWork, Work.steps]

@[simp] theorem actionCount_sleep (cfg : Cfg) (d : SleepDepth) (n : Nat) :
    actionCount (sleepWork cfg d n) = 6 + n := by
  simp +arith [actionCount, sleepWork, Work.actions]

@[simp] theorem readings_sleep (cfg : Cfg) (d : SleepDepth) (n : Nat) :
    readings (sleepWork cfg d n) = waits n := by
  simp [readings, sleepWork, Work.readings]

theorem worked_sleep (s : State) (n : Nat) : s.worked (sleepWork s.cfg s.sleepDepth n) = { s with
    dc := .high
    ctl := s.ctl.sent s.cfg .displayUpdateControl2 [s.cfg.payDuc2Sleep]
      |>.sent s.cfg .masterActivation []
      |>.sent s.cfg .deepSleepMode (s.cfg.paySleep s.sleepDepth)
    trace := s.trace ++ s.cfg.sleepTrace s.sleepDepth n
    env := s.env.after (6 + n) (1 + n) } := by
  have hevents : (sleepWork s.cfg s.sleepDepth n).flatMap (Work.events s.cfg) =
      s.cfg.sleepTrace s.sleepDepth n := by
    simp [sleepWork, Work.events, Cfg.sleepTrace]
  rw [State.worked, hevents, actionCount_sleep, readings_sleep, waits_length, Nat.add_comm n 1]
  rfl

/-! ##### `Init`, then W0 to W4, then A0 to A2 (R183, R185) -/

theorem ne_nil_of_length {buf : List Byte} (h : buf.length = 3813) : buf ≠ [] :=
  List.ne_nil_of_length_pos (by rw [h]; decide)

theorem performs_initWrite {s : State} {op : Op} {buf : List Byte} (hv : s.cfg.Valid)
    (hop : op.buf? = some buf) (hbuf : buf ≠ []) (n1 n3 n13 : Nat) :
    List.Forall₂ (Performs s op) (initSteps ++ writeSteps)
      (initWork s.cfg n1 n3 n13 ++ writeWork s.cfg buf) :=
  List.rel_append (performs_init hv op n1 n3 n13) (performs_write hv hop hbuf)

theorem stepCount_initWrite (cfg : Cfg) (buf : List Byte) (n1 n3 n13 : Nat) :
    stepCount (initWork cfg n1 n3 n13 ++ writeWork cfg buf) = 19 + (n1 + n3 + n13) := by
  simp +arith

theorem actionCount_initWrite (cfg : Cfg) (buf : List Byte) (n1 n3 n13 : Nat) :
    actionCount (initWork cfg n1 n3 n13 ++ writeWork cfg buf) = 34 + (n1 + n3 + n13) := by
  simp +arith

theorem worked_initWrite (s : State) (buf : List Byte) (n1 n3 n13 : Nat) :
    s.worked (initWork s.cfg n1 n3 n13 ++ writeWork s.cfg buf) = { s with
      rst := .high
      dc := .high
      ctl := (Ctl.afterInit s.cfg).afterWrite s.cfg buf
      trace := s.trace ++ s.cfg.initTrace n1 n3 n13 ++ s.cfg.writeTrace buf
      env := s.env.after (34 + (n1 + n3 + n13)) (3 + (n1 + n3 + n13)) } := by
  have hactions : 24 + (n1 + n3 + n13) + 10 = 34 + (n1 + n3 + n13) := by omega
  rw [worked_append]
  refine (worked_write (s.worked (initWork s.cfg n1 n3 n13)) buf).trans ?_
  rw [worked_init, Env.after_after, hactions, Nat.add_zero]

theorem worked_initWriteActivate (s : State) (buf : List Byte) (n1 n3 n13 n : Nat) :
    s.worked (initWork s.cfg n1 n3 n13 ++ writeWork s.cfg buf ++ activateWork s.cfg n) = { s with
      rst := .high
      dc := .high
      ctl := ((Ctl.afterInit s.cfg).afterWrite s.cfg buf).afterActivate s.cfg
      trace := s.trace ++ s.cfg.initTrace n1 n3 n13 ++ s.cfg.writeTrace buf ++ s.cfg.activateTrace n
      env := s.env.after (38 + (n1 + n3 + n13 + n)) (4 + (n1 + n3 + n13 + n)) } := by
  have hactions : 34 + (n1 + n3 + n13) + (4 + n) = 38 + (n1 + n3 + n13 + n) := by omega
  have hsamples : 3 + (n1 + n3 + n13) + (1 + n) = 4 + (n1 + n3 + n13 + n) := by omega
  rw [worked_append]
  refine (worked_activate (s.worked (initWork s.cfg n1 n3 n13 ++ writeWork s.cfg buf)) n).trans ?_
  rw [worked_initWrite, Env.after_after, hactions, hsamples]

/-! #### The requests -/

/-- Settles O32: WAKE is accepted at I0 and its list is `Init`. -/
theorem wakeRunsInit : Obligations.WakeRunsInit := by
  intro s n1 n3 n13 hv hp ht hq hr
  obtain ⟨-, hwake, -⟩ := initRequestsStart s hp ht
  have hrun := performed_works (last := .idle) hwake (performs_init hv .wake n1 n3 n13) (by simpa using hq)
    (by simpa using hr) (by rintro _ ⟨⟩ _; rfl)
  rw [stepCount_init, worked_init] at hrun
  exact ⟨.high, by simpa [finish, State.answer, hp] using hrun⟩

/-- The three configuration registers loaded from CFG (R173). -/
def State.loaded (s : State) : State :=
  { s with profile := s.cfg.profileInit, bg := s.cfg.bgInit, sleepDepth := s.cfg.sleepDepthCfg }

/-- Settles O33: CONSTRUCT is accepted at I0 with the three registers loaded, and its list is `Init`. -/
theorem constructRunsInit : Obligations.ConstructRunsInit := by
  intro s n1 n3 n13 hv hp ht hq hr
  obtain ⟨hconstruct, -⟩ := initRequestsStart s hp ht
  have hrun := performed_works (u := s.loaded) (last := .idle) hconstruct
    (performs_init (s := s.loaded) hv .construct n1 n3 n13) (by simpa [State.loaded] using hq)
    (by simpa [State.loaded] using hr) (by rintro _ ⟨⟩ _; rfl)
  rw [stepCount_init, worked_init] at hrun
  exact ⟨.high, by simpa [State.loaded, finish, State.answer, hp] using hrun⟩

/-- Settles O34: UPDATE is accepted at I0 and its list is `Init`, then W0 to W4. -/
theorem updateWritesBuffer : Obligations.UpdateWritesBuffer := by
  intro s buf n1 n3 n13 hv hlen hp ht hq hr
  obtain ⟨-, -, hbuf⟩ := initRequestsStart s hp ht
  have hactions := actionCount_initWrite s.cfg buf n1 n3 n13
  have hrun := performed_works (last := .idle) (hbuf buf hlen).1
    (performs_initWrite hv rfl (ne_nil_of_length hlen) n1 n3 n13) (by rwa [hactions])
    (by simpa using hr) (by rintro _ ⟨⟩ _; rfl)
  rw [stepCount_initWrite, worked_initWrite] at hrun
  exact ⟨.high, by simpa [finish, State.answer, hp] using hrun⟩

/-- Settles O35: DISPLAY is accepted at A0 and its list is A0 to A2. -/
theorem displayActivates : Obligations.DisplayActivates := by
  intro s n hp hst hq hr
  obtain ⟨hdisplay, -⟩ := idleRequestsStart s hp hst
  have hrun := performed_works (last := .idle) hdisplay (performs_activate s .display n) (by simpa using hq)
    (by simpa using hr) (by rintro _ ⟨⟩ _; rfl)
  rw [stepCount_activate, worked_activate] at hrun
  exact ⟨.high, by simpa [finish, State.answer, hp, hst] using hrun⟩

/-- Settles O36: UPDATE_AND_DISPLAY is accepted at I0 and its list is that of UPDATE, then A0 to A2. -/
theorem updateAndDisplayDoesBoth : Obligations.UpdateAndDisplayDoesBoth := by
  intro s buf n1 n3 n13 n hv hlen hp ht hq hr
  obtain ⟨-, -, hbuf⟩ := initRequestsStart s hp ht
  have hworks := List.rel_append
    (performs_initWrite (op := .updateAndDisplay buf) hv rfl (ne_nil_of_length hlen) n1 n3 n13)
    (performs_activate s (.updateAndDisplay buf) n)
  have hsteps : 19 + (n1 + n3 + n13) + (3 + n) = 22 + (n1 + n3 + n13 + n) := by omega
  have hactions : 34 + (n1 + n3 + n13) + (4 + n) = 38 + (n1 + n3 + n13 + n) := by omega
  have hrun := performed_works (last := .idle) (hbuf buf hlen).2 hworks
    (by rwa [actionCount_append, actionCount_initWrite, actionCount_activate, hactions])
    (by simpa using hr) (by rintro _ ⟨⟩ _; rfl)
  rw [stepCount_append, stepCount_initWrite, stepCount_activate, hsteps, worked_initWriteActivate] at hrun
  exact ⟨.high, by simpa [finish, State.answer, hp] using hrun⟩

/-- Settles O37: SLEEP is accepted at S0 and its list is S0 to S3. -/
theorem sleepEntersDeepSleep : Obligations.SleepEntersDeepSleep := by
  intro s n hv hp hst hq hr
  obtain ⟨-, hsleep, -⟩ := idleRequestsStart s hp hst
  have hrun := performed_works (last := .sleeping) hsleep (performs_sleep hv .sleep n) (by simpa using hq)
    (by simpa using hr) (by rintro _ ⟨⟩ _; rfl)
  rw [stepCount_sleep, worked_sleep] at hrun
  exact ⟨.high, by simpa [finish, State.answer, hp] using hrun⟩

/-! #### SET_REFRESH_PROFILE (R187) -/

/-- With the current profile P0 returns `Ok`. -/
theorem run_currentProfile {s : State} {p : Profile} (h : p = s.profile) :
    run 1 (s.atPos (.running (.setRefreshProfile p) 0)) = .next (finish s) := by
  rw [run_one (step_compare rfl)]
  exact congrArg _ (if_pos h)

/-- With another profile P0 goes on, P1 sends its table and P2 loads PROFILE and returns `Ok`. -/
theorem run_otherProfile {s : State} {p : Profile} (h : p ≠ s.profile) (htable : s.cfg.lut p ≠ [])
    (hq : s.env.Quiet 2) :
    run 3 (s.atPos (.running (.setRefreshProfile p) 0)) =
      .next (finish { s.worked [.frame .writeLutRegister (s.cfg.lut p)] with profile := p }) := by
  have hp0 : step (s.atPos (.running (.setRefreshProfile p) 0)) =
      .next (s.atPos (.running (.setRefreshProfile p) 1)) :=
    (step_compare rfl).trans (congrArg _ (if_neg h))
  have hp1 : step (s.atPos (.running (.setRefreshProfile p) 1)) =
      .next ((s.worked [.frame .writeLutRegister (s.cfg.lut p)]).atPos
        (.running (.setRefreshProfile p) 2)) := by
    rw [step_command (l := .p1) rfl rfl rfl]
    exact congrArg _ (sendCommandWithData_quiet .writeLutRegister (s := s.atPos _) htable hq)
  rw [run_succ 2 hp0, run_succ 1 hp1, run_one (step_load rfl)]
  rfl

theorem lut_ne_nil {c : Cfg} (hv : c.Valid) (p : Profile) : c.lut p ≠ [] := by
  obtain ⟨-, -, -, -, -, -, -, -, -, -, -, -, -, -, hpos, hfull, hquick⟩ := hv
  refine List.ne_nil_of_length_pos ?_
  cases p with
  | full => exact hfull ▸ hpos
  | quick => exact hquick ▸ hpos

/-- Settles O38: the request is accepted at P0, where the two profiles are compared. -/
theorem refreshProfileSwitched : Obligations.RefreshProfileSwitched := by
  intro s p hv hp hst hq
  obtain ⟨-, -, hprofile⟩ := idleRequestsStart s hp hst
  have hx : exec (.setRefreshProfile p) s = .next (s.atPos (.running (.setRefreshProfile p) 0)) := hprofile p
  simp only [performed, hx]
  refine ⟨fun hne => ⟨.high, ?_⟩, fun heq => ?_⟩
  · rw [run_otherProfile hne (lut_ne_nil hv p) hq,
      ← Ctl.sent_eq_put s.cfg (s.cfg.lut p) s.ctl (by decide) (by decide), hp]
    rfl
  · rw [run_currentProfile heq, hp]
    rfl

end Sys2Proof.Machine

/-! ### The waveform table store (43_waveform_table_store.md R210, R212, R213) -/

namespace Sys2Proof.Machine

/-- Every instruction keeps CFG (R210). -/
theorem exec_cfg {s t : State} {i : Instr} (h : exec i s = .next t) : t.cfg = s.cfg := by
  cases hi : i.command? with
  | some sent =>
    obtain ⟨c, bs⟩ := sent
    rw [exec_of_command hi] at h
    cases h
    exact (sendCommandWithData_end c bs s).keeps.1
  | none => exact (exec_request_silent hi h).1

/-- Settles O45: `exec_cfg` and `step_cfg`. -/
theorem configurationNeverChanges : Obligations.ConfigurationNeverChanges :=
  ⟨fun _ _ _ => exec_cfg, fun _ _ => step_cfg⟩

/-- WRITE_LUT_REGISTER is sent at P1 only, with the table of the profile requested (R187). -/
theorem commandOf_writeLutRegister {s : State} {op : Op} {l : StepLabel} {bs : List Byte}
    (h : commandOf s op l = some (.writeLutRegister, bs)) :
    l = .p1 ∧ ∃ p, op.profile? = some p ∧ bs = s.cfg.lut p := by
  cases l
  case p1 =>
    obtain ⟨p, hp, heq⟩ := Option.map_eq_some_iff.mp h
    cases heq
    exact ⟨rfl, p, hp, rfl⟩
  all_goals simp [commandOf] at h

/-- A step that sends WRITE_LUT_REGISTER stands at P1 of SET_REFRESH_PROFILE, and under the invariant the
profile requested is not the current one (R187, R213). -/
theorem writeLutRegister_position {s : State} {op : Op} {k : Nat} {l : StepLabel} {bs : List Byte}
    (hinv : s.inv = true) (hp : s.seqPos = .running op k) (hl : (stepsOf op)[k]? = some l)
    (hc : commandOf s op l = some (.writeLutRegister, bs)) :
    ∃ p, s.seqPos = .running (.setRefreshProfile p) 1 ∧ p ≠ s.profile ∧ bs = s.cfg.lut p := by
  obtain ⟨rfl, p, hop, rfl⟩ := commandOf_writeLutRegister hc
  obtain ⟨q, rfl, hk⟩ := profile_of_p hl (.inr (.inl rfl))
  obtain rfl : k = 1 := by simpa using hk
  obtain rfl : q = p := Option.some.inj hop
  obtain ⟨-, -, -, hchecked, -⟩ := (inv_iff_of_running hp).mp hinv
  exact ⟨q, hp, by simpa [operandChecked] using hchecked, rfl⟩

/-- Settles O52: where WRITE_LUT_REGISTER is sent by `writeLutRegister_position`, what is appended by
`step_sent`; a table of a valid CFG is not empty (`lut_ne_nil`), so it is not sent as a bare command. -/
theorem tableSentOnlyOnProfileChange : Obligations.TableSentOnlyOnProfileChange := by
  intro s t new hinv hv h htrace hmem
  have ho : s.cfg.opc.Injective := by
    obtain ⟨-, -, ho, -⟩ := hv
    exact ho
  obtain ⟨op, k, l, bs, hp, hl, hc, hsent⟩ := step_sent (c := .writeLutRegister) ho h htrace hmem
  obtain ⟨p, hpos, hne, htable⟩ := writeLutRegister_position hinv hp hl hc
  refine ⟨p, hpos, hne, ?_⟩
  cases hsent with
  | bare => exact absurd htable.symm (lut_ne_nil hv p)
  | frame => exact .inl (by rw [htable]; rfl)
  | dataFault => exact .inr rfl

end Sys2Proof.Machine

/-! ### A busy line never lets a request go (60_exceptions.md R224) -/

namespace Sys2Proof.Machine

/-- Settles O11: `run_busy`, the state after `n` polls written out. -/
theorem busyLineHangs : Obligations.BusyLineHangs :=
  fun _ _ _ _ _ hp hl hw hq hr => run_busy hp hl hw hq hr

end Sys2Proof.Machine

/-! ### Faults in the frame of a command (40_transport_framer.md R122, R123, 60_exceptions.md R226) -/

namespace Sys2Proof.Machine

/-- With a payload or without one the command phase comes first. -/
theorem sendCommandWithData_fault_command (c : Command) (bs : List Byte) {s : State}
    (h : s.env.faultAt 0 = true) :
    sendCommandWithData c bs s = transportFault (.cmd (s.cfg.opc.code c))
      (State.ctlForget c { s with env := s.env.after 1 0 }) := by
  by_cases hb : bs = []
  · rw [hb, sendCommandWithData_nil]
    exact attempt_fault h
  · simpa [h] using sendCommandWithData_cases c hb s

theorem sendCommandWithData_fault_data (c : Command) {bs : List Byte} (hb : bs ≠ []) {s : State}
    (h0 : s.env.faultAt 0 = false) (h1 : s.env.faultAt 1 = true) :
    sendCommandWithData c bs s = transportFault .data
      (State.ctlForget c (commandPhase c { s with env := s.env.after 2 0 })) := by
  simpa [h0, h1] using sendCommandWithData_cases c hb s

/-- Settles O17: the entry of R226 from the state whose one action was the command phase. -/
theorem faultInCommandPhase : Obligations.FaultInCommandPhase := by
  intro s c bs h
  rw [exec_command, sendCommandWithData_fault_command c _ h]
  exact ⟨.high, rfl⟩

/-- Settles O18: the entry of R226 from the state whose command phase went through; a command that is not bare
is sent with its payload. -/
theorem faultInDataPhase : Obligations.FaultInDataPhase := by
  intro s c bs hc hb h0 h1
  rw [exec_command, hc, if_neg (by simp), sendCommandWithData_fault_data c hb h0 h1]
  refine ⟨.high, ?_⟩
  simp [transportFault, State.ctlForget, commandPhase, State.emit, State.answer]

end Sys2Proof.Machine

/-! ### A rejection only answers (60_exceptions.md R225) -/

namespace Sys2Proof.Machine

/-- An accepted request delivers nothing yet, or a result that is no rejection. -/
theorem requestBody_results (i : Instr) (s : State) :
    (requestBody i s).results = s.results ∨
      ∃ r, (requestBody i s).results = s.results ++ [r] ∧ ∀ why, r ≠ .preconditionViolation why := by
  cases i with
  | setBackgroundColor | width | height => exact .inr ⟨_, rfl, fun _ => by simp⟩
  | _ => exact .inl (by simp [requestBody])

/-- Settles O28: a rejection delivers the `why` it was made for, an accepted request no rejection
(`requestBody_results`). -/
theorem rejectionChangesNothing : Obligations.RejectionChangesNothing := by
  intro s t i why hi h hresults
  rcases exec_request_next hi h with ⟨why', rfl⟩ | ⟨-, rfl⟩
  · obtain rfl : why' = why := by simpa using hresults
    rfl
  · rcases requestBody_results i s with hnone | ⟨r, hr, hne⟩
    · simp [hnone] at hresults
    · exact absurd (by simpa [hr] using hresults) (hne why)

end Sys2Proof.Machine

/-! ### `Sleeping` and `Faulted` are left by `Init` only (60_exceptions.md R229, 70_reset_and_hazards.md R263) -/

namespace Sys2Proof.Machine

/-- No step of a request is performed in `Sleeping` or `Faulted` (R178). -/
theorem stAt_ne_sleeping_faulted (l : StepLabel) : stAt l ≠ .sleeping ∧ stAt l ≠ .faulted := by
  cases l <;> decide

theorem ready_of_sleeping_or_faulted {s : State} (hinv : s.inv = true)
    (hst : s.st = .sleeping ∨ s.st = .faulted) : s.seqPos = .ready := by
  cases hp : s.seqPos with
  | ready => rfl
  | running op k =>
    obtain ⟨l, -, hl, -⟩ := (inv_iff_of_running hp).mp hinv
    obtain ⟨hsleeping, hfaulted⟩ := stAt_ne_sleeping_faulted l
    rw [hl] at hst
    exact (hst.elim hsleeping hfaulted).elim

/-- An accepted request keeps ST and the engine ready, or stands at its step I0, or is one of those that are
legal in `Idle` only (R172). -/
theorem requestBody_ready_or_init {i : Instr} {s : State} (hp : s.seqPos = .ready)
    (hchecks : precheck i s.st = none) (hidle : s.st ≠ .idle) :
    ((requestBody i s).st = s.st ∧ (requestBody i s).seqPos = .ready) ∨
    ((requestBody i s).st = .initializing ∧
      ∃ op, (requestBody i s).seqPos = .running op 0 ∧ (stepsOf op)[0]? = some .i0) := by
  have hlegal := (legal_of_precheck hchecks).1
  cases i with
  | construct | wake | update | updateAndDisplay => exact .inr ⟨rfl, _, rfl, rfl⟩
  | display | sleep | setRefreshProfile => exact absurd (eq_idle_of_idleOnly hlegal) hidle
  | _ => exact .inl ⟨rfl, hp⟩

/-- Settles O48: no request runs in these states, so the step presents one; a rejection only answers, an
accepted request by `requestBody_ready_or_init`. -/
theorem onlyInitLeavesSleepingOrFaulted : Obligations.OnlyInitLeavesSleepingOrFaulted := by
  intro s t hinv hst h
  have hp := ready_of_sleeping_or_faulted hinv hst
  have hidle : s.st ≠ .idle := by rcases hst with hst | hst <;> simp [hst]
  cases hs : s.script with
  | nil =>
    cases (step_ready_nil hp hs).symm.trans h
    exact ⟨rfl, rfl, .inl ⟨rfl, hp⟩⟩
  | cons r rest =>
    rw [step_ready_cons hp hs] at h
    obtain ⟨-, htrace, hctl⟩ := exec_request_silent (decodeRequest_command _ _) h
    refine ⟨htrace, hctl, ?_⟩
    rcases exec_request_next (decodeRequest_command _ _) h with ⟨why, rfl⟩ | ⟨hchecks, rfl⟩
    · exact .inl ⟨rfl, hp⟩
    · exact requestBody_ready_or_init (s := { s with script := rest }) hp hchecks hidle

end Sys2Proof.Machine

/-! ### A request returns if its waits read idle (60_exceptions.md R220, R224) -/

namespace Sys2Proof.Machine

/-- Step `k` of `op`, begun with the results `rs`, has ended: the request has returned its one result, or stands
at the next step with no result and at least `idle` idle readings among the known samples. -/
inductive StepEnded (rs : List Result) (op : Op) (k idle : Nat) (t : State) : Prop
  | returned (r : Result) : t.seqPos = .ready → t.results = rs ++ [r] → StepEnded rs op k idle t
  | next : t.seqPos = .running op (k + 1) → k + 1 < (stepsOf op).length → t.results = rs →
      idle ≤ t.env.busy.count .high → StepEnded rs op k idle t

theorem stepEnded_transportFault {s u : State} {op : Op} {k idle : Nat} (a : Action)
    (hresults : u.results = s.results) : StepEnded s.results op k idle (transportFault a u) :=
  .returned .transportFault rfl (by simp [hresults])

section
variable {s : State} {op : Op} {k : Nat} (hp : s.seqPos = .running op k)
include hp

theorem stepEnded_advance {u : State} {idle : Nat} (hpos : u.seqPos = s.seqPos)
    (hresults : u.results = s.results) (hidle : idle ≤ u.env.busy.count .high) :
    StepEnded s.results op k idle (advance u) := by
  rcases advance_cases u with ⟨hready, -⟩ | ⟨op', k', l, hp', hl, h⟩ | ⟨op', k', -, -, h⟩
  · cases (hpos.trans hp).symm.trans hready
  · cases (hpos.trans hp).symm.trans hp'
    rw [h]
    exact .next rfl (List.getElem?_eq_some_iff.mp hl).1 hresults hidle
  · rw [h]
    exact .returned .ok rfl (by simp [hresults])

/-! #### A step that is no wait -/

theorem stepEnded_resetPulse (low settle : Nat) :
    StepEnded s.results op k (s.env.busy.count .high) (resetPulse low settle s) := by
  rcases resetPulse_cases low settle s with ⟨-, -, h⟩ | ⟨-, h⟩ | ⟨-, -, h⟩ <;> rw [h]
  · exact stepEnded_advance hp rfl rfl le_rfl
  · exact stepEnded_transportFault _ rfl
  · exact stepEnded_transportFault _ rfl

theorem stepEnded_sendCommandWithData (c : Command) (bs : List Byte) :
    StepEnded s.results op k (s.env.busy.count .high) (sendCommandWithData c bs s) := by
  by_cases hb : bs = []
  · rw [hb, sendCommandWithData_nil]
    rcases sendCommand_cases c s with ⟨-, h⟩ | ⟨-, h⟩ <;> rw [h]
    · exact stepEnded_advance hp rfl rfl le_rfl
    · exact stepEnded_transportFault _ rfl
  · rcases sendCommandWithData_cases c hb s with ⟨-, -, h⟩ | ⟨-, h⟩ | ⟨-, -, h⟩ <;> rw [h]
    · exact stepEnded_advance hp rfl rfl le_rfl
    · exact stepEnded_transportFault _ rfl
    · exact stepEnded_transportFault _ rfl

theorem stepEnded_compareProfile (p : Profile) :
    StepEnded s.results op k (s.env.busy.count .high) (compareProfile p s) := by
  unfold compareProfile
  split
  · exact .returned .ok rfl rfl
  · exact stepEnded_advance hp rfl rfl le_rfl

/-- A step that is no wait ends at once and takes no sample. -/
theorem step_ended {l : StepLabel} (hl : (stepsOf op)[k]? = some l) (hw : l ∉ waitLabels) :
    ∃ t, step s = .next t ∧ StepEnded s.results op k (s.env.busy.count .high) t := by
  obtain ⟨t, ht⟩ : ∃ t, step s = .next t := by
    rcases step_at_label hp hl with ⟨-, t, ht, -⟩ | ⟨p, -, ht⟩ | ⟨p, -, ht⟩ <;> exact ⟨_, ht⟩
  refine ⟨t, ht, ?_⟩
  rcases step_cases ht with ⟨hready, -⟩ | ⟨_, _, hready, -⟩ | ⟨_, -, -, rfl⟩ |
    ⟨op', k', l', hp', hl', hw', -⟩ | ⟨_, _, _, c, bs, -, -, -, rfl⟩ | ⟨p, -, rfl⟩ | ⟨p, -, rfl⟩
  · cases hp.symm.trans hready
  · cases hp.symm.trans hready
  · exact stepEnded_resetPulse hp ..
  · cases hp.symm.trans hp'
    cases hl.symm.trans hl'
    exact absurd hw' hw
  · exact stepEnded_sendCommandWithData hp ..
  · exact stepEnded_compareProfile hp p
  · exact stepEnded_advance hp rfl rfl le_rfl

end

/-! #### A wait -/

theorem Env.busyAt_zero {e : Env} {level : Level} {rest : List Level} (h : e.busy = level :: rest) :
    e.busyAt 0 = level := by
  simp [Env.busyAt, h]

theorem Env.busy_after_one {e : Env} {level : Level} {rest : List Level} (f : Nat)
    (h : e.busy = level :: rest) : (e.after f 1).busy = rest := by
  simp [Env.after, h]

/-- A wait with an idle reading among the known samples ends, whatever is read or faults before it, and uses up
at most that one. -/
theorem run_wait_ended {s : State} {op : Op} {k : Nat} {l : StepLabel} (hp : s.seqPos = .running op k)
    (hl : (stepsOf op)[k]? = some l) (hw : l ∈ waitLabels) (hidle : .high ∈ s.env.busy) :
    ∃ n t, run n s = .next t ∧ StepEnded s.results op k (s.env.busy.count .high - 1) t := by
  induction hb : s.env.busy generalizing s with
  | nil => simp [hb] at hidle
  | cons level rest ih =>
    have hstep := step_wait hp hl hw
    cases hf : s.env.faultAt 0 with
    | true =>
      rw [waitIdle_fault hf] at hstep
      exact ⟨1, _, run_one hstep, stepEnded_transportFault _ rfl⟩
    | false =>
      have hrest := Env.busy_after_one 1 hb
      cases level with
      | high =>
        rw [waitIdle_idle hf (Env.busyAt_zero hb)] at hstep
        exact ⟨1, _, run_one hstep, stepEnded_advance hp rfl rfl (by simp [hrest])⟩
      | low =>
        rw [waitIdle_busy hf (Env.busyAt_zero hb)] at hstep
        obtain ⟨n, t, hrun, hended⟩ := ih (s := { s with
          env := s.env.after 1 1
          trace := s.trace ++ [.busy .low, .delay s.cfg.pollDelay] }) hp (by simpa [hrest, hb] using hidle) hrest
        exact ⟨n + 1, t, (run_succ n hstep).trans hrun, by simpa using hended⟩

/-! #### The steps still to come -/

/-- The waits of `op` from its step `k` on. -/
def waitsFrom (op : Op) (k : Nat) : Nat := ((stepsOf op).drop k).countP (· ∈ waitLabels)

theorem waitsFrom_eq {op : Op} {k : Nat} {l : StepLabel} (hl : (stepsOf op)[k]? = some l) :
    waitsFrom op k = waitsFrom op (k + 1) + if l ∈ waitLabels then 1 else 0 := by
  obtain ⟨hk, rfl⟩ := List.getElem?_eq_some_iff.mp hl
  simp only [waitsFrom, List.drop_eq_getElem_cons hk, List.countP_cons, decide_eq_true_eq]

/-- A request has at most four waits: I1, I3, I13 and A2 (R180). -/
theorem waitsFrom_le_four (op : Op) (k : Nat) : waitsFrom op k ≤ 4 := by
  calc waitsFrom op k
      ≤ (stepsOf op).countP (· ∈ waitLabels) := (List.drop_sublist k _).countP_le
    _ ≤ 4 := by cases op <;> simp only [stepsOf] <;> decide

/-- Step `k` ends if it is no wait or an idle reading is known for it, and leaves one for each wait to come if
there was one for each. -/
theorem run_step_ended {s : State} {op : Op} {k : Nat} {l : StepLabel} (hp : s.seqPos = .running op k)
    (hl : (stepsOf op)[k]? = some l) (hidle : waitsFrom op k ≤ s.env.busy.count .high) :
    ∃ n t idle, run n s = .next t ∧ waitsFrom op (k + 1) ≤ idle ∧ StepEnded s.results op k idle t := by
  have hwaits := waitsFrom_eq hl
  by_cases hw : l ∈ waitLabels
  · rw [if_pos hw] at hwaits
    obtain ⟨n, t, hrun, hended⟩ := run_wait_ended hp hl hw (List.count_pos_iff.mp (by omega))
    exact ⟨n, t, _, hrun, by omega, hended⟩
  · rw [if_neg hw] at hwaits
    obtain ⟨t, hstep, hended⟩ := step_ended hp hl hw
    exact ⟨1, t, _, run_one hstep, by omega, hended⟩

/-- A running request with an idle reading known for each of its waits returns one result: by recursion on the
steps still to come. -/
theorem run_returns {s : State} {op : Op} {k : Nat} (hp : s.seqPos = .running op k)
    (hk : k < (stepsOf op).length) (hidle : waitsFrom op k ≤ s.env.busy.count .high) :
    ∃ n t, run n s = .next t ∧ t.seqPos = .ready ∧ ∃ r, t.results = s.results ++ [r] := by
  obtain ⟨n, t, idle, hrun, hwaits, hended⟩ := run_step_ended hp (List.getElem?_eq_getElem hk) hidle
  cases hended with
  | returned r hready hresults => exact ⟨n, t, hrun, hready, r, hresults⟩
  | next hnext hlt hresults hleft =>
    obtain ⟨m, u, hrun', hready, hone⟩ := run_returns hnext hlt (hwaits.trans hleft)
    exact ⟨n + m, u, (run_add m hrun).trans hrun', hready, hresults ▸ hone⟩
termination_by (stepsOf op).length - k

/-- Settles O57: at Ready nothing is left to do; a running request returns by `run_returns`, four idle readings
being enough for the waits of any request. -/
theorem requestReturnsUnderIdleReadings : Obligations.RequestReturnsUnderIdleReadings := by
  intro s hinv hidle
  cases hp : s.seqPos with
  | ready => exact ⟨0, s, rfl, hp, fun hrunning => absurd rfl hrunning⟩
  | running op k =>
    obtain ⟨l, hl, -⟩ := (inv_iff_of_running hp).mp hinv
    obtain ⟨n, t, hrun, hready, hone⟩ :=
      run_returns hp (List.getElem?_eq_some_iff.mp hl).1 ((waitsFrom_le_four op k).trans hidle)
    exact ⟨n, t, hrun, hready, fun _ => hone⟩

end Sys2Proof.Machine
